-- ==== Sys2Proof/Word.lean ====
section
/-!
DEFINITION. The plain words of the CV264: bytes, 16-bit words, time tags, the two sides A and B, pin levels, and the
small enumerations that commands carry.
-/

namespace Sys2Proof

/-- A byte of a frame or of the nonvolatile region. -/
abbrev Byte := BitVec 8

/-- A word is 16 bits (00_scope.md, Conventions). -/
abbrev Word := BitVec 16

/-- A time tag: a count of microseconds, 0..4294967295 (R157). -/
abbrev Stamp := BitVec 32

/-- The two sides of the part. Engines, ports and lines are all named A and B (R171's code table: 0 A, 1 B). -/
inductive Side
  | a
  | b
  deriving DecidableEq, Repr

/-- A Poll Engine, A or B. -/
abbrev Engine := Side

/-- A Line Port, A or B. -/
abbrev PortId := Side

/-- A field line, A or B. Line A is carried by port A and line B by port B (R69). -/
abbrev Line := Side

/-- The other of the two sides. -/
def Side.other : Side → Side
  | .a => .b
  | .b => .a

/-- The level of a pin. -/
inductive Level
  | low
  | high
  deriving DecidableEq, Repr

/-- The pins that the board holds at a level: write protection, low when it is asserted, and the rate straps (00_scope.md,
Pins). -/
structure BoardPins where
  storeWp : Level
  lr1 : Level
  lr0 : Level
  deriving DecidableEq, Repr

/-- The levels at which a field port's receiver samples a character behind its data bits (R5): the parity bit, which a port
without parity does not sample, and the first stop bit. -/
structure CharSample where
  parity : Level
  stop : Level
  deriving DecidableEq, Repr

/-- What the host link's receiver sees about a byte (R145): the level at which its stop bit is sampled, and whether HL_RXD
returned high before it, which counts behind a framing error alone. -/
structure ByteSample where
  stop : Level
  returned : Bool
  deriving DecidableEq, Repr

/-- The last character of a reply that is discarded (R11): its port, and the level at which its first stop bit is sampled. -/
structure LastCharacter where
  port : PortId
  stop : Level
  deriving DecidableEq, Repr

/-- What PAGE_PROGRAM_COMPLETE tells of the program that ended (R163, R167): verified against the snapshot, read back
different, or complete with its verify not yet taken (the last row of R167's table). -/
inductive ProgramEnd
  | verified
  | differs
  | unverified
  deriving DecidableEq, Repr

end Sys2Proof
end

