-- ==== Sys2Proof/Config.lean ====
section
/-!
DEFINITION. What one CV264 fixes (the capacities and codes of R156 and R163) and the one free value of the model.
-/

namespace Sys2Proof

/-- Consecutive failed transactions that make a station OFFLINE (R28: "The fail threshold is fixed at 3"). -/
def Config.failThreshold : Nat := 3

/-- Notice queue entries (R153). -/
def Config.noticeEntries : Nat := 32

/-- Demand queue entries per engine (R74). -/
def Config.demandEntries : Nat := 8

/-- Service stack entries (R134). -/
def Config.stackEntries : Nat := 4

/-- Words per pair half (R115). -/
def Config.halfWords : Nat := 128

/-- Microseconds in one timetable unit of 0.1 ms (00_scope.md, Units). -/
def Config.unit : Nat := 100

/-- The longest payload of a host-link frame (R147). -/
def Config.maxPayload : Nat := 250

/-- The largest valid reply in characters, the limit of DISCARDING (R11). -/
def Config.replyLimit : Nat := 38

/-- FREE VALUE (log entry 8). The byte at an address of a page that an erase or a program in progress, cut off or failed
has left without a content the spec states (R160, R163). Its first argument is the count `Region.tears` of such losses so
far. It has no body: nothing can be proved of its value. -/
opaque Config.tornByte : Nat → Nat → Byte

end Sys2Proof
end

