-- ==== Sys2Proof/Syntax.lean ====
section
/-!
DEFINITION. The commands of the CV264: one constructor for each row of spec/opcode_table.json.

A request command is the arrival of that request's frame on the host link, complete and with a good check (log entry 1).
Its operands are the frame's TAG and the bytes and words of its payload, as 11.4 lays them out. Bytes and bits that 11.3
calls unused are sent as 0. The other commands are the events of the table; their operands are what the outside decides.
-/

namespace Sys2Proof

/-- The commands of the CV264. -/
inductive Instr
  /-- IDENTIFY (R156). -/
  | identify (tag : Byte)
  /-- GET-STATUS (R155). -/
  | getStatus (tag : Byte)
  /-- RESTART (R158). -/
  | restart (tag : Byte)
  /-- TIME-SET (R157). -/
  | timeSet (tag : Byte) (value : Stamp)
  /-- PART-SET (R85): M, D and the notice enables byte. -/
  | partSet (tag mask level enables : Byte)
  /-- PART-GET (R87). -/
  | partGet (tag : Byte)
  /-- ARRANGE (R34). -/
  | arrange (tag arrangement : Byte)
  /-- PORT-SET (R2): the port and its five settings. -/
  | portSet (tag port rate parity stopBits timeout gap : Byte)
  /-- PORT-GET (R3). -/
  | portGet (tag port : Byte)
  /-- LINE-START (R45). -/
  | lineStart (tag engine : Byte)
  /-- LINE-STOP (R46). -/
  | lineStop (tag engine mode : Byte)
  /-- LINE-STATUS (R62). -/
  | lineStatus (tag engine : Byte)
  /-- STATION-SET (R22): the station and its record of 11.3 (the flags byte holds six of the ten fields). -/
  | stationSet (tag station flags address level descriptor retries : Byte)
  /-- STATION-GET (R25). -/
  | stationGet (tag station : Byte)
  /-- SLOT-SET (R39): the engine, the slot and the slot record of 11.3. -/
  | slotSet (tag engine slot kind : Byte) (offset : Word) (divisor phase station request : Byte)
      (point : Word) (count pair wordOffset flipAfter : Byte)
  /-- SLOT-GET (R40). -/
  | slotGet (tag engine bank slot : Byte)
  /-- BANK-HEADER-SET (R41). -/
  | bankHeaderSet (tag engine : Byte) (period : Word) (slotCount : Byte) (slack : Word)
  /-- BANK-HEADER-GET (R40). -/
  | bankHeaderGet (tag engine bank : Byte)
  /-- BANK-COPY (R42). -/
  | bankCopy (tag engine : Byte)
  /-- BANK-SWAP (R43): action 0 DISARM, 1 ARM. -/
  | bankSwap (tag engine action : Byte)
  /-- DESCRIPTOR-SET (R104): the descriptor and its record of 11.3. -/
  | descriptorSet (tag descriptor kind : Byte) (point : Word)
      (perTransfer remaining pair wordOffset flags : Byte)
  /-- DESCRIPTOR-GET (R106). -/
  | descriptorGet (tag descriptor : Byte)
  /-- PAIR-SET (R116). -/
  | pairSet (tag pair direction : Byte)
  /-- PAIR-GET (R117). -/
  | pairGet (tag pair : Byte)
  /-- PAIR-READ (R118). -/
  | pairRead (tag pair start count : Byte)
  /-- PAIR-WRITE (R119). -/
  | pairWrite (tag pair start : Byte) (words : List Word)
  /-- PAIR-RELEASE (R120). -/
  | pairRelease (tag pair : Byte)
  /-- PAIR-COMMIT (R121). -/
  | pairCommit (tag pair : Byte)
  /-- DEMAND (R75). -/
  | demand (tag engine station kind : Byte) (point : Word) (count : Byte) (words : List Word)
  /-- TAKE (R136). -/
  | take (tag : Byte)
  /-- DONE (R139). -/
  | done (tag : Byte)
  /-- STORE-SAVE (R162): the two autostart flags. -/
  | storeSave (tag autostartA autostartB : Byte)
  /-- STORE-ERASE (R164). -/
  | storeErase (tag : Byte)
  /-- STORE-CANCEL (R165). -/
  | storeCancel (tag : Byte)
  /-- REQUEST_FRAME_COMPLETE (R147, R148): the bytes, all clean, that complete the frame the receiver is assembling; the
  last of them is its last check byte. -/
  | requestFrameComplete (rest : List Byte)
  /-- HOST_GAP_TIMER_EXPIRY (R147). -/
  | hostGapTimerExpiry
  /-- REPLY_SENT (R148). -/
  | replySent
  /-- NOTICE_SENT (R151). -/
  | noticeSent
  /-- POWER_ON (R159), with the levels of the straps when they are sampled (R145). -/
  | powerOn (lr1 lr0 : Level)
  /-- RESET_PIN (R159), with the levels of the straps when they are sampled (R145). -/
  | resetPin (lr1 lr0 : Level)
  /-- STORE_WP_ASSERTED (R165): the board's pins take levels. STORE_WP low is the assertion, and high is "its return high" (log
  entry 9); LR1 and LR0 stand at the straps' levels, which the next reset samples (R145, log entry 6). -/
  | storeWpAsserted (pins : BoardPins)
  /-- BLOCK_ERASE_COMPLETE (R163): whether the block read back with every byte 0xFF. -/
  | blockEraseComplete (erased : Bool)
  /-- ERASE_TIMEOUT (R163). -/
  | eraseTimeout
  /-- PAGE_PROGRAM_COMPLETE (R163). -/
  | pageProgramComplete (how : ProgramEnd)
  /-- PROGRAM_TIMEOUT (R163). -/
  | programTimeout
  /-- PERIOD_EXPIRY (R51). -/
  | periodExpiry (engine : Engine)
  /-- SLOT_START_TIME (R54). -/
  | slotStartTime (engine : Engine)
  /-- REQUEST_FRAME_SENT (R9). -/
  | requestFrameSent (port : PortId)
  /-- REPLY_TIMEOUT (R9). -/
  | replyTimeout (port : PortId)
  /-- REPLY_FRAME_COMPLETE (R12): the characters, all clean, that complete the reply being received. -/
  | replyFrameComplete (port : PortId) (rest : List Byte)
  /-- REPLY_GAP_EXPIRY (R10, R11). -/
  | replyGapExpiry (port : PortId)
  /-- DISCARD_LIMIT_REACHED (R11): the 38th character completes, at a port and with its stop bit at a level, which RXD then has
  (log entry 11). -/
  | discardLimitReached (last : LastCharacter)
  /-- ABORTED_CHARACTER_END (R15). -/
  | abortedCharacterEnd (port : PortId)
  /-- TURNAROUND_GAP_EXPIRY (R14). -/
  | turnaroundGapExpiry (port : PortId)
  /-- LINE_LOW (R17). -/
  | lineLow (port : PortId)
  /-- LINE_HIGH (R17). -/
  | lineHigh (port : PortId)
  /-- LINE_MONITOR_TIMER_EXPIRY (R17). -/
  | lineMonitorTimerExpiry (port : PortId)
  /-- FIELD_CHARACTER_RECEIVED (R5, R9, R10, R11): the character's eight data bits, and the levels sampled behind them. -/
  | fieldCharacterReceived (port : PortId) (value : Byte) (sample : CharSample)
  /-- HOST_BYTE_RECEIVED (R145, R147): the byte's value, and what the receiver sees about it (log entry 11). -/
  | hostByteReceived (value : Byte) (sample : ByteSample)
  deriving DecidableEq, Repr

end Sys2Proof
end

