-- ==== Sys2Proof/WellFormed.lean ====
section
/-!
DEFINITION. Which commands the outside can send at all: a request's payload fits one host-link frame (R147: 0..250
bytes), and a frame is completed by at least one byte and never by more than a whole frame holds.
-/

namespace Sys2Proof

/-- The payload length of a request command whose length the operands decide; 0 for every other command. -/
def Instr.runLength : Instr → Nat
  | .pairWrite _ _ _ words => 2 + 2 * words.length
  | .demand _ _ _ _ _ _ words => 6 + 2 * words.length
  | _ => 0

/-- The bytes with which a frame completion comes, and the most a whole frame has; none for every other
command. -/
def Instr.completion : Instr → Option (Nat × Nat)
  | .requestFrameComplete rest => some (rest.length, 256)
  | .replyFrameComplete _ rest => some (rest.length, 38)
  | _ => none

/-- A command the outside can send. -/
def Instr.wellFormed (i : Instr) : Bool :=
  decide (i.runLength ≤ Config.maxPayload) &&
    match i.completion with
    | none => true
    | some (n, most) => decide (1 ≤ n) && decide (n ≤ most)

end Sys2Proof
end

