-- ==== Sys2Proof/Decode.lean ====
section
/-!
DEFINITION. Words of the opcode table: no row of spec/opcode_table.json gives bits, so no word spells a command.
-/

namespace Sys2Proof

/-- The command that a word spells by the opcode table's bits: none, since the table gives no row any bits. -/
def decodeTableWord (_nbits _w : Nat) : Option Instr := none

end Sys2Proof
end

