-- ==== Sys2Proof/Machine/Records.lean ====
section
/-!
DEFINITION. The records of the CV264: every table and small state the chapters give a block, as plain data.
-/

namespace Sys2Proof.Machine

/-! ### Line Ports (chapter 1) -/

/-- Parity of a field port (R1). -/
inductive Parity
  | none
  | even
  | odd
  deriving DecidableEq, Repr

/-- Stop bits of a field port (R1). -/
inductive StopBits
  | one
  | two
  deriving DecidableEq, Repr

/-- The five settings of a port (R1). -/
structure PortSettings where
  /-- rate code, 0..8 -/
  rate : Fin 9
  parity : Parity
  stopBits : StopBits
  /-- reply timeout code, 0..3 -/
  replyTimeout : Fin 4
  /-- turnaround gap in character times, 1..16 -/
  gap : Byte
  deriving DecidableEq, Repr

/-- What a character is sent or received with: the rate, parity and stop bits it began with (R1). -/
structure CharFormat where
  rate : Fin 9
  parity : Parity
  stopBits : StopBits
  deriving DecidableEq, Repr

/-- The part of a port's settings that a character which begins now takes (R1). -/
def PortSettings.format (c : PortSettings) : CharFormat := ⟨c.rate, c.parity, c.stopBits⟩

/-- A port's transmitter while a request frame leaves (R4): its characters go out back to back, so the time since the first
start bit tells which one is shifting and which one is held. The frame's settings do not change under it (R2); those of the
character that an abort leaves shifting may, and it finishes with the ones it began with (R1). -/
structure Shifter where
  format : CharFormat
  /-- the characters that leave: the frame's, or up to the character shifting when an abort came (R15) -/
  chars : List Byte
  /-- microseconds since the first start bit began (log entry 5) -/
  elapsed : Nat
  deriving DecidableEq, Repr

/-- The request kinds of a field frame (R7). -/
inductive ReqKind
  | read
  | write
  | status
  | acknowledge
  deriving DecidableEq, Repr

/-- A field request frame less its sync and check (R7). -/
structure FieldRequest where
  address : Byte
  kind : ReqKind
  point : Word
  count : Byte
  /-- the count data words of a WRITE -/
  data : List Word
  deriving DecidableEq, Repr

/-- What an engine hands a port: the frame, and the reply count it must be answered with (R7, R8). -/
structure Attempt where
  /-- the engine that handed the attempt, to which its outcome is reported (R13) -/
  engine : Engine
  request : FieldRequest
  /-- expected reply count: the request count for READ, 0 for the other kinds -/
  expected : Nat
  deriving DecidableEq, Repr

/-- The phase of a port with what it carries (1.5). -/
inductive PortPhase
  | idle
  /-- the request frame is being sent; `none` after an abort, while the character then shifting is finished (R15) -/
  | sending (attempt : Option Attempt)
  /-- `expired`: the reply timeout has expired and a character that began before it decides (R9) -/
  | awaiting (attempt : Attempt) (expired : Bool)
  /-- the characters received since the sync, the sync included (R10) -/
  | receiving (attempt : Attempt) (chars : List Byte)
  /-- how many characters have completed since the sync, the sync included (R11) -/
  | discarding (attempt : Attempt) (count : Nat)
  | turnaround
  deriving DecidableEq, Repr

/-- The states of a port's line monitor (R17). -/
inductive Monitor
  | armed
  | timing
  | waitHigh
  | suspended
  deriving DecidableEq, Repr

/-- What a running interval of a port times (R1). -/
inductive IntervalUse
  | replyTimeout
  | replyGap
  | turnaround
  | lineCall
  deriving DecidableEq, Repr

/-- A running interval: it keeps the length it had when it began (R1). -/
structure Interval where
  use : IntervalUse
  /-- its length in character times -/
  chars : Nat
  /-- bit times in one character time, 10, 11 or 12 -/
  bits : Nat
  /-- the rate code it is timed at -/
  rate : Fin 9
  deriving DecidableEq, Repr

/-- A Line Port (chapter 1). -/
structure Port where
  settings : PortSettings
  phase : PortPhase
  /-- the attempt waiting for IDLE (R8) -/
  waiting : Option Attempt
  monitor : Monitor
  /-- the level on RXD -/
  rxd : Level
  /-- the character in progress at the receiver, whose start bit has been seen, by the format it began with (R1, R5, R9) -/
  rxChar : Option CharFormat
  /-- after a framing error, until RXD has returned high (R5) -/
  rxBreak : Bool
  interval : Option Interval
  /-- the transmitter; none while it is silent (R4) -/
  shifter : Option Shifter
  deriving DecidableEq, Repr

/-! ### Station Table and Attention Arbiter (chapters 2 and 5) -/

/-- Whether a station may be reached on the other line in PAIRED (R19). -/
inductive Alternate
  | none
  | other
  deriving DecidableEq, Repr

/-- How a station's attention is served (R19). -/
inductive ServiceMode
  | host
  | descriptor
  deriving DecidableEq, Repr

/-- The ten configuration fields of a station (R19). -/
structure StationConfig where
  enabled : Bool
  /-- 1..127 -/
  address : Byte
  home : Line
  alternate : Alternate
  /-- assigned level, 0..7 -/
  level : Fin 8
  mode : ServiceMode
  descriptor : Fin 32
  retries : Fin 4
  switchOnRetry : Bool
  sweepMember : Bool
  deriving DecidableEq, Repr

/-- A station's standing (R20, R28). -/
inductive Health
  | online
  | suspect
  | offline
  deriving DecidableEq, Repr

/-- What a status byte carries: class 0..2 and the busy and fault flags (R20). -/
structure Status where
  cls : Fin 3
  busy : Bool
  fault : Bool
  deriving DecidableEq, Repr

/-- A station record (R19, R20). -/
structure Station where
  config : StationConfig
  health : Health
  failCount : Fin 4
  /-- current line -/
  line : Line
  /-- last status -/
  last : Status
  lastContact : Stamp
  inTransaction : Option Engine
  deriving DecidableEq, Repr

/-- The states of an attention record (R82). -/
inductive AttnState
  | clear
  | pending
  | serving
  | escalated
  | held
  | acking
  deriving DecidableEq, Repr

/-- An attention record (R82). -/
structure Attention where
  state : AttnState
  level : Fin 9
  cls : Fin 3
  deriving DecidableEq, Repr

/-- The record in CLEAR: "its level and class are set to 0" (R82). -/
def Attention.none : Attention := ⟨.clear, 0, 0⟩

/-- The arrangement of the two lines (2.9). -/
inductive Arrangement
  | independent
  | paired
  deriving DecidableEq, Repr

/-- The notice enables (R84). -/
structure Enables where
  escalation : Bool
  pairFlipped : Bool
  stationState : Bool
  cycleReport : Bool
  lineState : Bool
  deriving DecidableEq, Repr

/-- A service stack entry (R134). -/
structure StackEntry where
  station : Fin 64
  level : Fin 9
  deriving DecidableEq, Repr

/-! ### Descriptors and pairs (chapters 6 and 7) -/

/-- The request kind of a descriptor's transfers (R102). -/
inductive XferKind
  | read
  | write
  deriving DecidableEq, Repr

/-- What becomes of the station when its descriptor is spent (R102). -/
inductive EndAction
  | escalate
  | acknowledge
  deriving DecidableEq, Repr

/-- The ten fields of a transfer descriptor (R102). -/
structure Descriptor where
  kind : XferKind
  point : Word
  /-- points per transfer, 1..16 -/
  perTransfer : Byte
  /-- 0..255 -/
  remaining : Byte
  pair : Fin 16
  wordOffset : Fin 128
  advancePoint : Bool
  advanceOffset : Bool
  endAction : EndAction
  flipAtEnd : Bool
  deriving DecidableEq, Repr

/-- The direction of a pair (R115). -/
inductive Direction
  | capture
  | output
  deriving DecidableEq, Repr

/-- A half of a pair, half 0 or half 1 (R115). -/
inductive Half
  | zero
  | one
  deriving DecidableEq, Repr

/-- The other half. -/
def Half.other : Half → Half
  | .zero => .one
  | .one => .zero

/-- The state of the host half (R115). -/
inductive HostHalf
  | unread
  | released
  | editing
  | committed
  deriving DecidableEq, Repr

/-- A pair (R115). -/
structure Pair where
  direction : Direction
  working : Half
  hostState : HostHalf
  sequence : Word
  miss : Bool
  flipStamp : Stamp
  captureStamp : Stamp
  half0 : Vector Word 128
  half1 : Vector Word 128
  deriving DecidableEq, Repr

/-! ### Timetables, transactions and demands (chapters 3 and 4) -/

/-- The request kinds of a FIXED slot and of a demand (R37, R74). -/
inductive PollKind
  | read
  | write
  | status
  deriving DecidableEq, Repr

/-- The seven FIXED fields of a slot (R37). -/
structure FixedFields where
  station : Fin 64
  request : PollKind
  point : Word
  /-- 1..16 -/
  count : Byte
  pair : Fin 16
  wordOffset : Fin 128
  flipAfter : Bool
  deriving DecidableEq, Repr

/-- A slot record (R37). Its kind is FIXED exactly when it has the FIXED fields, and ATTENTION otherwise. -/
structure Slot where
  offset : Word
  /-- 1, 2, 4, 8, 16, 32, 64 or 128 -/
  divisor : Byte
  /-- below the divisor -/
  phase : Byte
  fixed : Option FixedFields
  deriving DecidableEq, Repr

/-- A bank header (R36). -/
structure BankHeader where
  /-- 10..65535 units of 0.1 ms -/
  period : Word
  slotCount : Fin 129
  slack : Word
  deriving DecidableEq, Repr

/-- A timetable bank (R36). -/
structure Bank where
  header : BankHeader
  slots : Vector Slot 128
  deriving DecidableEq, Repr

/-- The two banks of an engine (R36). -/
inductive BankId
  | x
  | y
  deriving DecidableEq, Repr

/-- The other bank. -/
def BankId.other : BankId → BankId
  | .x => .y
  | .y => .x

/-- The stop modes (R46). -/
inductive StopMode
  | afterCycle
  | afterTransaction
  | abort
  deriving DecidableEq, Repr

/-- The run state of an engine, with the pending stop mode (R44). -/
inductive RunState
  | stopped
  | running
  | stopping (mode : StopMode)
  deriving DecidableEq, Repr

/-- A demand queue entry (R74). -/
structure Demand where
  tag : Byte
  station : Fin 64
  kind : PollKind
  point : Word
  count : Byte
  data : List Word
  deriving DecidableEq, Repr

/-- The outcomes of attempts, transactions and demands (R12, R13, R68, R80). -/
inductive LineOutcome
  | good
  | busy
  | noReply
  | garbled
  | wrongStation
  | aborted
  | discarded
  deriving DecidableEq, Repr

/-- The source of a transaction with its reference (R64). -/
inductive Source
  | fixed (slot : Fin 128) (fields : FixedFields)
  | probe (slot : Fin 128) (fields : FixedFields)
  | transfer (descriptor : Fin 32)
  | acknowledge
  | sweep
  | demand (entry : Demand)
  deriving DecidableEq, Repr

/-- A reply status: the port, class, flags and time tag of an attempt that ended GOOD or BUSY (R64). Which of the two it
ended is its busy flag: GOOD has it clear and BUSY has it set (R12). -/
structure ReplyStatus where
  port : PortId
  status : Status
  time : Stamp
  deriving DecidableEq, Repr

/-- The transaction record (R64). It exists from issue to end. -/
structure Transaction where
  subject : Fin 64
  source : Source
  request : FieldRequest
  /-- expected reply count -/
  expected : Nat
  /-- attempt limit, 1..4 -/
  limit : Nat
  /-- attempts made, 0..4 -/
  made : Nat
  /-- the line of the attempt most recently handed to a port -/
  lastLine : Option Line
  statuses : List ReplyStatus
  readData : List Word
  /-- the final outcome, set when the result is final (R68); its event also ends the transaction (R70) -/
  outcome : Option LineOutcome
  deriving DecidableEq, Repr

/-- The activity of an engine, with the transaction it holds or the port it waits for (R44, R55). -/
inductive Activity
  | none
  | waiting
  | inTransaction (t : Transaction)
  | gap (port : PortId)
  | cycleWait
  deriving DecidableEq, Repr

/-- The seven tallies of a cycle (R60). -/
structure Tallies where
  executed : Nat
  failed : Nat
  idle : Nat
  passed : Nat
  skippedLate : Nat
  overrun : Nat
  refused : Nat
  deriving DecidableEq, Repr

/-- All tallies 0 (R44, R51). -/
def Tallies.zero : Tallies := ⟨0, 0, 0, 0, 0, 0, 0⟩

/-- The last-cycle summary (R60). -/
structure Summary where
  present : Bool
  cycle : Word
  bank : BankId
  tallies : Tallies
  deriving DecidableEq, Repr

/-- No summary: absent, "with all counts 0" after a reset (R44); its cycle number, its bank and the counts behind LINE-START are
log entry 13. -/
def Summary.absent : Summary := ⟨false, 0, .x, .zero⟩

/-- An engine's cycle timer in the Time Base: the period it runs for, in units of 0.1 ms, and the microseconds since the
cycle start (R51). -/
structure CycleTimer where
  period : Word
  elapsed : Nat
  deriving DecidableEq, Repr

/-- A Poll Engine (chapters 3, 4 and 5). -/
structure EngineState where
  bankX : Bank
  bankY : Bank
  active : BankId
  swapArmed : Bool
  run : RunState
  activity : Activity
  /-- cycle number, modulo 65536 -/
  cycle : Word
  cycleStart : Stamp
  /-- the running cycle timer; none when the period timer is stopped -/
  timer : Option CycleTimer
  /-- next slot index, 0..128 -/
  next : Nat
  /-- the slot at the next slot index has started in this cycle -/
  started : Bool
  tallies : Tallies
  summary : Summary
  demands : List Demand
  callPending : Bool
  cursor : Fin 64
  visited : List (Fin 64)
  deriving DecidableEq, Repr

/-! ### Image Store (chapter 10) -/

/-- The configuration an image holds (R160): the staging snapshot of a save, and what start-up applies. -/
structure Image where
  arrangement : Arrangement
  portA : PortSettings
  portB : PortSettings
  mask : Fin 8
  demandLevel : Fin 8
  enables : Enables
  autostartA : Bool
  autostartB : Bool
  headerA : BankHeader
  headerB : BankHeader
  directions : Vector Direction 16
  stations : Vector StationConfig 64
  slotsA : Vector Slot 128
  slotsB : Vector Slot 128
  descriptors : Vector Descriptor 32
  deriving DecidableEq, Repr

/-- The nonvolatile region (R160). -/
structure Region where
  /-- address and byte pairs, addresses rising; an unlisted address reads 0xFF, as an erased byte does -/
  cells : List Host.Cell
  /-- pages that an erase or a program in progress, cut off or failed has left without a stated content -/
  torn : Vector Bool 64
  /-- THE MODEL'S OWN: how many times pages have become torn; the free value of a torn byte is read at it -/
  tears : Nat
  deriving DecidableEq, Repr

/-- Image state (R161). -/
inductive ImageState
  | valid
  | invalid
  deriving DecidableEq, Repr

/-- Start-up source (R168). -/
inductive StartSource
  | image
  | noImage
  | badCheck
  deriving DecidableEq, Repr

/-- The store operation in progress (R162, R164); a save carries its staging snapshot. -/
inductive StoreOp
  | save (snapshot : Image)
  | erase
  deriving DecidableEq, Repr

/-- The store controller: the step of the operation in progress (R161, R163). `again`: the page is being programmed for the
second time. `complete`: its program has run to its end and its verify is not yet taken (R167). -/
inductive Store
  | idle
  | erasing (op : StoreOp) (block : Fin 4)
  | programming (snapshot : Image) (page : Nat) (again complete : Bool)
  | marking (snapshot : Image) (again complete : Bool)
  deriving DecidableEq, Repr

/-- What a store operation's outcome says (R166). -/
inductive StoreOutcome
  | saved
  | erased
  /-- the controller state when the cancel was taken, as its code, and whether by the pin -/
  | cancelled (step : Byte) (byPin : Bool)
  | eraseFailed (block : Fin 4)
  | programFailed (page : Nat)
  deriving DecidableEq, Repr

/-! ### Host link and notices (chapter 9) -/

/-- A host-link frame less its sync, LEN and check (9.2). -/
structure Frame where
  kind : Byte
  tag : Byte
  payload : List Byte
  deriving DecidableEq, Repr

/-- The receiver of the host link: HUNTING, or ASSEMBLING with the bytes taken after the sync (R147). -/
inductive LinkRx
  | hunting
  /-- HUNTING behind a framing error: no start bit is looked for until HL_RXD has returned high (R145) -/
  | waitHigh
  | assembling (bytes : List Byte)
  deriving DecidableEq, Repr

/-- The result codes (R150). -/
inductive ResultCode
  | ok
  | accepted
  | badKind
  | badLength
  | badValue
  | busy
  | lineRunning
  | notRunning
  | alreadyStopping
  | wrongArrangement
  | wrongLine
  | wrongDirection
  | stationActive
  | stationDisabled
  | duplicateAddress
  | descriptorBusy
  | pairCommitted
  | full
  | none
  | stackFull
  | stackEmpty
  | isProtected
  deriving DecidableEq, Repr

/-- What a dispatched request answers: the result and the reply items after it (R150). -/
structure Reply where
  result : ResultCode
  items : List Byte
  deriving DecidableEq, Repr

/-- The cause of a reset (R170). -/
inductive ResetCause
  | powerOn
  | resetPin
  | restart
  deriving DecidableEq, Repr

/-- Why a STATION-STATE notice is queued (R33). -/
inductive StationReason
  | online
  | offline
  | lineChanged
  | faultSet
  | faultCleared
  deriving DecidableEq, Repr

/-- How a record entered ESCALATED (R135). -/
inductive Origin
  | reply
  | mask
  | stationSet
  | endAction
  deriving DecidableEq, Repr

/-- The cause of a flip event, with the slot or descriptor it names (R125). -/
inductive FlipCause
  | slot (index : Fin 128)
  | descriptorWrap (index : Fin 32)
  | descriptorEnd (index : Fin 32)
  deriving DecidableEq, Repr

/-- The content of a notice (R152), less its time tag. -/
inductive Notice
  | started (cause : ResetCause) (source : StartSource) (image : ImageState) (arrangement : Arrangement)
      (startedA startedB : Bool)
  | demandResult (tag : Byte) (engine : Engine) (station : Fin 64) (kind : PollKind) (outcome : LineOutcome)
      (attempts : Nat) (last : Status) (data : List Word)
  /-- `origin` is none for RE-OFFER (R135) -/
  | escalation (station : Fin 64) (level : Fin 9) (cls : Fin 3) (mode : ServiceMode) (origin : Option Origin)
      (count : Nat) (serviceLevel : Fin 9)
  | pairFlipped (pair : Fin 16) (direction : Direction) (cause : FlipCause) (engine : Engine) (hostHalf : Half)
      (sequence : Word) (miss : Bool) (captureStamp : Stamp)
  | stationState (station : Fin 64) (reason : StationReason) (health : Health) (line : Line) (last : Status)
  | cycleReport (engine : Engine) (cycle : Word) (bank : BankId) (tallies : Tallies)
  | lineStopped (engine : Engine) (mode : StopMode) (cycle : Word)
  | lineCall (engine : Engine) (port : PortId)
  | storeResult (save : Bool) (outcome : StoreOutcome) (image : ImageState)
  deriving DecidableEq, Repr

/-- A raised notice: its content and the time tag of its moment (R152). -/
structure Raised where
  notice : Notice
  time : Stamp
  deriving DecidableEq, Repr

/-- A frame that the transmitter sends (R151). -/
inductive TxFrame
  | reply (frame : Frame)
  | notice (raised : Raised)
  deriving DecidableEq, Repr

/-- A frame leaving on HL_TXD, with the microseconds since its first start bit began (R145, log entry 5). -/
structure Transmission where
  content : TxFrame
  elapsed : Nat
  deriving DecidableEq, Repr

/-- The host link's rate as the straps were sampled at the last reset (R145). -/
structure LinkRate where
  lr1 : Level
  lr0 : Level
  deriving DecidableEq, Repr

end Sys2Proof.Machine
end

