-- ==== Sys2Proof/Machine/State.lean ====
section
/-!
DEFINITION. The state of the CV264 as plain data, what it is right after reset, and the reasons a step could stop for
(the spec gives the block none).
-/

namespace Sys2Proof.Machine

/-- The state of the part. -/
structure State where
  /-- the commands that are waiting, first in first out -/
  pending : List Instr
  /-- the level on strap pin LR1 -/
  lr1 : Level
  /-- the level on strap pin LR0 -/
  lr0 : Level
  /-- the level on STORE_WP; low is asserted -/
  storeWp : Level
  /-- the time tag (R157) -/
  time : Stamp
  /-- the host link's rate (R145) -/
  linkRate : LinkRate
  /-- the host link's receiver (R147) -/
  rx : LinkRx
  /-- the request in processing (R148) -/
  processing : Option Frame
  /-- the held request (R148) -/
  held : Option Frame
  /-- the reply slot (R150) -/
  replySlot : Option Frame
  /-- the frame being sent (R151); none when the transmitter is free -/
  tx : Option Transmission
  /-- the notice queue, oldest first (R153) -/
  notices : List Raised
  /-- the overrun flag (R154) -/
  overrun : Bool
  /-- the arrangement (2.9) -/
  arrangement : Arrangement
  /-- mask level M (R84) -/
  mask : Fin 8
  /-- demand level D (R84) -/
  demandLevel : Fin 8
  /-- the notice enables (R84) -/
  enables : Enables
  /-- the Station Table (R19, R20) -/
  stations : Vector Station 64
  /-- the attention records (R82) -/
  attention : Vector Attention 64
  /-- the service stack, newest entry first (R134) -/
  stack : List StackEntry
  /-- the Descriptor Table (R102) -/
  descriptors : Vector Descriptor 32
  /-- the claim of each descriptor (R103) -/
  claims : Vector (Option Engine) 32
  /-- Pair Memory (R115) -/
  pairs : Vector Pair 16
  portA : Port
  portB : Port
  engineA : EngineState
  engineB : EngineState
  /-- the nonvolatile region (R160) -/
  region : Region
  /-- image state (R161) -/
  imageState : ImageState
  /-- start-up source of the last start-up (R168) -/
  startSource : StartSource
  /-- the store controller (R161) -/
  store : Store
  deriving DecidableEq, Repr

/-- The reasons the part could stop with a fault: none. The spec gives the block no fault that stops it; it answers a bad
request with a result code and goes on (R149). No meaning raises one, which is safe. -/
inductive Fault
  deriving DecidableEq, Repr

/-- The reasons a command could have no meaning. -/
inductive Refusal
  /-- Raised by an arm of `exec` whose command has no meaning yet; no arm does now. Safe: nothing is claimed of it. -/
  | notModelled (mnemonic : String)
  deriving DecidableEq, Repr

/-- The reset values of a port's settings (R1): 9600 bit/s, EVEN, one stop bit, 4 character times, gap 3. -/
def PortSettings.reset : PortSettings := ⟨3, .even, .one, 1, 3⟩

/-- The line monitor on an IDLE port when it is first looked at: ARMED if RXD is high, WAIT-HIGH if it is low (R16, R17). -/
def Monitor.ofLevel : Level → Monitor
  | .high => .armed
  | .low => .waitHigh

/-- A port after reset, with the level then on RXD (R16). -/
def Port.reset (rxd : Level) : Port :=
  { settings := .reset, phase := .idle, waiting := none, monitor := .ofLevel rxd, rxd := rxd, rxChar := none,
    rxBreak := false, interval := none, shifter := none }

/-- The reset values of a station's configuration (R19). -/
def StationConfig.reset (i : Fin 64) : StationConfig :=
  { enabled := false, address := BitVec.ofNat 8 (i.val + 1), home := .a, alternate := .none, level := 0, mode := .host,
    descriptor := 0, retries := 1, switchOnRetry := false, sweepMember := false }

/-- A station record with reset values in its state fields (R20); its current line is its home line. -/
def Station.fresh (c : StationConfig) : Station :=
  { config := c, health := .online, failCount := 0, line := c.home, last := ⟨0, false, false⟩, lastContact := 0,
    inTransaction := none }

/-- The reset values of a descriptor (R102). -/
def Descriptor.reset : Descriptor :=
  { kind := .read, point := 0, perTransfer := 1, remaining := 0, pair := 0, wordOffset := 0, advancePoint := false,
    advanceOffset := false, endAction := .escalate, flipAtEnd := false }

/-- A pair as PAIR-SET initialises it in a direction (R116); the reset values are those of CAPTURE (R115). -/
def Pair.init (d : Direction) : Pair :=
  { direction := d, working := .zero,
    hostState := match d with
      | .capture => .released
      | .output => .editing
    sequence := 0, miss := false, flipStamp := 0, captureStamp := 0,
    half0 := Vector.replicate 128 0, half1 := Vector.replicate 128 0 }

/-- The reset value of a slot record (R37). -/
def Slot.reset : Slot := ⟨0, 1, 0, none⟩

/-- The reset value of a bank (R36, R37). -/
def Bank.reset : Bank := ⟨⟨1000, 0, 0⟩, Vector.replicate 128 .reset⟩

/-- An engine after reset (R44). -/
def EngineState.reset : EngineState :=
  { bankX := .reset, bankY := .reset, active := .x, swapArmed := false, run := .stopped, activity := .none, cycle := 0,
    cycleStart := 0, timer := none, next := 0, started := false, tallies := .zero, summary := .absent, demands := [],
    callPending := false, cursor := 0, visited := [] }

/-- The notice enables after reset: all enabled (R84). -/
def Enables.all : Enables := ⟨true, true, true, true, true⟩

/-- The region of a part whose region has never been written: erased (log entry 7). -/
def Region.erased : Region := ⟨[], Vector.replicate 64 false, 0⟩

/-- The part right after reset: every block at its reset value (R16, R19, R20, R36, R37, R44, R82, R84, R98, R102, R103,
R115, R134, R145, R159), start-up taken on an erased region (R168: DEFAULTS-NO-IMAGE, INVALID), and STARTED begun by the
free transmitter (R170, R151). The pins' levels are log entry 6. -/
def State.reset : State :=
  { pending := []
    lr1 := .low, lr0 := .low, storeWp := .high
    time := 0
    linkRate := ⟨.low, .low⟩
    rx := .hunting
    processing := none, held := none, replySlot := none
    tx := some ⟨.notice ⟨.started .powerOn .noImage .invalid .independent false false, 0⟩, 0⟩
    notices := [], overrun := false
    arrangement := .independent
    mask := 0, demandLevel := 3, enables := .all
    stations := Vector.ofFn fun i => .fresh (.reset i)
    attention := Vector.replicate 64 .none
    stack := []
    descriptors := Vector.replicate 32 .reset
    claims := Vector.replicate 32 none
    pairs := Vector.replicate 16 (.init .capture)
    portA := .reset .high, portB := .reset .high
    engineA := .reset, engineB := .reset
    region := .erased
    imageState := .invalid, startSource := .noImage
    store := .idle }

end Sys2Proof.Machine
end

