-- ==== Sys2Proof/Machine/Flags.lean ====
section
/-!
DEFINITION. The flag bytes of chapter 11: the status byte, the flag bytes of the station and descriptor records, and the
notice enables; and the frame check of R6.
-/

namespace Sys2Proof.Machine

/-- A byte of a small number. -/
def byteOf (n : Nat) : Byte := BitVec.ofNat 8 n

/-- A bit of weight `w` in a flag byte. -/
def flag (b : Bool) (w : Nat) : Nat := if b then w else 0

/-- A yes/no byte (11.2): 0 no, 1 yes. -/
def boolByte (b : Bool) : Byte := byteOf (flag b 1)

/-! ### Status byte (11.1) -/

/-- The attention class of a reply's status byte, 0..3; class 3 is invalid (R12). -/
def statusClass (b : Byte) : Nat := b.toNat % 4

/-- The station-busy flag of a reply's status byte. -/
def statusBusy (b : Byte) : Bool := b.getLsbD 2

/-- The station-fault flag of a reply's status byte. -/
def statusFault (b : Byte) : Bool := b.getLsbD 3

/-- What is carried of a status byte whose class is not 3; bits 7..4 are ignored (R172). -/
def Status.ofByte (b : Byte) : Status :=
  ⟨if h : statusClass b < 3 then ⟨statusClass b, h⟩ else 0, statusBusy b, statusFault b⟩

/-- The byte of a "last status" in the frames to the host (11.1). -/
def Status.toByte (t : Status) : Byte := byteOf (t.cls.val + flag t.busy 4 + flag t.fault 8)

/-! ### Notice enables (11.3) -/

/-- The notice enables byte; bits 7..5 are ignored (R171). -/
def Enables.ofByte (b : Byte) : Enables :=
  ⟨b.getLsbD 0, b.getLsbD 1, b.getLsbD 2, b.getLsbD 3, b.getLsbD 4⟩

/-- The byte the part sends for the notice enables. -/
def Enables.toByte (e : Enables) : Byte :=
  byteOf (flag e.escalation 1 + flag e.pairFlipped 2 + flag e.stationState 4 + flag e.cycleReport 8 + flag e.lineState 16)

/-! ### Characters on a line (R4, R145) -/

/-- The level of a bit: 1 is high. -/
def levelOf (bit : Bool) : Level := if bit then .high else .low

/-- The eight data bits of a character, least significant first. -/
def dataLevels (c : Byte) : List Level := (List.range 8).map fun i => levelOf (c.getLsbD i)

/-- The ones among the eight data bits of a character. -/
def onesOf (c : Byte) : Nat := (List.range 8).countP fun i => c.getLsbD i

/-- The parity bit of a character: with it the ones among the data and parity bits are even under EVEN and odd under ODD; NONE
has none (R4). -/
def Parity.bit (p : Parity) (c : Byte) : Option Bool :=
  match p with
  | .none => Option.none
  | .even => some (decide (onesOf c % 2 = 1))
  | .odd => some (decide (onesOf c % 2 = 0))

/-- The stop bits sent after a character (R1). -/
def StopBits.count : StopBits → Nat
  | .one => 1
  | .two => 2

/-- The levels of a character that a field port sends, one for each bit time: start bit, data bits, parity bit, stop bits
(R4). -/
def CharFormat.levels (f : CharFormat) (c : Byte) : List Level :=
  .low :: (dataLevels c ++ ((f.parity.bit c).map levelOf).toList ++ List.replicate f.stopBits.count .high)

/-- Whether a received character is clean (R5): its first stop bit is high, and its parity bit agrees with the parity it is
received with; NONE looks at none. -/
def CharFormat.isClean (f : CharFormat) (c : Byte) (parity stop : Level) : Bool :=
  decide (stop = .high) &&
    match f.parity.bit c with
    | none => true
    | some b => decide (parity = levelOf b)

/-- The levels of a byte on the host link: start bit, data bits, no parity bit, one stop bit (R145). -/
def hostLevels (c : Byte) : List Level := .low :: (dataLevels c ++ [.high])

/-! ### Rates (R1, R145) -/

/-- Bit times in one character time: a start bit, eight data bits, the parity bit when there is one, and the stop bits
(R1). -/
def CharFormat.bits (f : CharFormat) : Nat :=
  9 + (match f.parity with
    | .none => 0
    | .even => 1
    | .odd => 1) + f.stopBits.count

/-- The bit rate of a rate code, in bit/s (R1). -/
def CharFormat.bitRate (f : CharFormat) : Nat :=
  [1200, 2400, 4800, 9600, 19200, 38400, 57600, 115200, 230400].getD f.rate.val 0

/-- The bit rate of the host link under the straps, in bit/s (R145). -/
def LinkRate.bitRate (r : LinkRate) : Nat :=
  match r.lr1, r.lr0 with
  | .low, .low => 19200
  | .low, .high => 57600
  | .high, .low => 115200
  | .high, .high => 460800

/-! ### The frame check (R6) -/

/-- One bit of the frame check: the bit is combined with the top bit of the register, the register is shifted left, and
when the exclusive-or gave 1 it is combined with 0x8005. -/
def crcBit (r : Word) (bit : Bool) : Word :=
  if (r.msb != bit) then (r <<< 1) ^^^ 0x8005 else r <<< 1

/-- One covered byte, its bits from most significant to least significant. -/
def crcByte (r : Word) (b : Byte) : Word :=
  [7, 6, 5, 4, 3, 2, 1, 0].foldl (fun r i => crcBit r (b.getLsbD i)) r

/-- The frame check over the covered bytes, starting at 0xFFFF, with no final inversion. -/
def frameCheck (covered : List Byte) : Word := covered.foldl crcByte 0xFFFF

end Sys2Proof.Machine
end

