-- ==== Sys2Proof/Machine/Operands.lean ====
section
/-!
DEFINITION. The operand forms: byte order, the codes of chapter 11 in both directions, and the record encodings of 11.3
with their range checks (R171). A reader answers none for a byte or a record that is out of range.
-/

namespace Sys2Proof.Machine

/-! ### Byte order: high byte first (00_scope.md, Conventions) -/

/-- The two bytes of a word, high byte first. -/
def wordBytes (w : Word) : List Byte := [w.extractLsb' 8 8, w.extractLsb' 0 8]

/-- The word of two bytes, high byte first. -/
def wordOf (hi lo : Byte) : Word := hi ++ lo

/-- The bytes of a run of words. -/
def wordsBytes (ws : List Word) : List Byte := ws.flatMap wordBytes

/-- The words of a run of bytes; none when the bytes hold a part of a word. -/
def wordsOf : List Byte → Option (List Word)
  | [] => some []
  | [_] => none
  | hi :: lo :: rest => (wordsOf rest).map (wordOf hi lo :: ·)

/-- The four bytes of a time tag or stamp, high byte first. -/
def stampBytes (t : Stamp) : List Byte :=
  [t.extractLsb' 24 8, t.extractLsb' 16 8, t.extractLsb' 8 8, t.extractLsb' 0 8]

/-- The time tag of four bytes, high byte first. -/
def stampOf (b3 b2 b1 b0 : Byte) : Stamp := b3 ++ b2 ++ b1 ++ b0

/-- A count as two bytes. -/
def countBytes (n : Nat) : List Byte := wordBytes (BitVec.ofNat 16 n)

/-! ### Codes (11.2) -/

/-- A byte as an index below `n`. -/
def finOf (n : Nat) (b : Byte) : Option (Fin n) := if h : b.toNat < n then some ⟨b.toNat, h⟩ else none

/-- A yes/no byte: "A yes/no byte other than 0 or 1 is out of range" (R171). -/
def boolOf (b : Byte) : Option Bool := if b = 0 then some false else if b = 1 then some true else none

/-- Engine, port or line code: 0 A, 1 B. -/
def sideCode : Side → Byte
  | .a => 0
  | .b => 1

/-- Engine, port or line of a byte. -/
def sideOf (b : Byte) : Option Side := if b = 0 then some .a else if b = 1 then some .b else none

/-- Bank code: 0 X, 1 Y. -/
def BankId.code : BankId → Byte
  | .x => 0
  | .y => 1

/-- Bank of a byte. -/
def bankOf (b : Byte) : Option BankId := if b = 0 then some .x else if b = 1 then some .y else none

/-- Arrangement code: 0 INDEPENDENT, 1 PAIRED. -/
def Arrangement.code : Arrangement → Byte
  | .independent => 0
  | .paired => 1

/-- Arrangement of a byte. -/
def arrangementOf (b : Byte) : Option Arrangement :=
  if b = 0 then some .independent else if b = 1 then some .paired else none

/-- Claim, in-transaction and engine-using code: 0 none, 1 Engine A, 2 Engine B. -/
def claimCode : Option Engine → Byte
  | none => 0
  | some .a => 1
  | some .b => 2

/-- Run state code. -/
def RunState.code : RunState → Byte
  | .stopped => 0
  | .running => 1
  | .stopping _ => 2

/-- Stop mode code. -/
def StopMode.code : StopMode → Byte
  | .afterCycle => 1
  | .afterTransaction => 2
  | .abort => 3

/-- The pending stop mode's code; 0 none. -/
def RunState.modeCode : RunState → Byte
  | .stopping m => m.code
  | _ => 0

/-- Stop mode of a byte of LINE-STOP; 0 is out of range (R171). -/
def stopModeOf (b : Byte) : Option StopMode :=
  if b = 1 then some .afterCycle else if b = 2 then some .afterTransaction else if b = 3 then some .abort else none

/-- Activity code. -/
def Activity.code : Activity → Byte
  | .none => 0
  | .waiting => 1
  | .inTransaction _ => 2
  | .gap _ => 3
  | .cycleWait => 4

/-- Transaction source code. -/
def Source.code : Source → Byte
  | .fixed _ _ => 1
  | .probe _ _ => 2
  | .transfer _ => 3
  | .acknowledge => 4
  | .sweep => 5
  | .demand _ => 6

/-- Outcome code. -/
def LineOutcome.code : LineOutcome → Byte
  | .good => 0
  | .busy => 1
  | .noReply => 2
  | .garbled => 3
  | .wrongStation => 4
  | .aborted => 5
  | .discarded => 6

/-- Health code. -/
def Health.code : Health → Byte
  | .online => 0
  | .suspect => 1
  | .offline => 2

/-- Attention state code. -/
def AttnState.code : AttnState → Byte
  | .clear => 0
  | .pending => 1
  | .serving => 2
  | .escalated => 3
  | .held => 4
  | .acking => 5

/-- Direction code: 0 CAPTURE, 1 OUTPUT. -/
def Direction.code : Direction → Byte
  | .capture => 0
  | .output => 1

/-- Direction of a byte. -/
def directionOf (b : Byte) : Option Direction := if b = 0 then some .capture else if b = 1 then some .output else none

/-- A half's index. -/
def Half.code : Half → Byte
  | .zero => 0
  | .one => 1

/-- Host half state code. -/
def HostHalf.code : HostHalf → Byte
  | .unread => 0
  | .released => 1
  | .editing => 2
  | .committed => 3

/-- Port phase code. -/
def PortPhase.code : PortPhase → Byte
  | .idle => 0
  | .sending _ => 1
  | .awaiting _ _ => 2
  | .receiving _ _ => 3
  | .discarding _ _ => 4
  | .turnaround => 5

/-- Line-monitor state code. -/
def Monitor.code : Monitor → Byte
  | .armed => 0
  | .timing => 1
  | .waitHigh => 2
  | .suspended => 3

/-- Parity code. -/
def Parity.code : Parity → Byte
  | .none => 0
  | .even => 1
  | .odd => 2

/-- Parity of a byte. -/
def parityOf (b : Byte) : Option Parity :=
  if b = 0 then some .none else if b = 1 then some .even else if b = 2 then some .odd else none

/-- Stop bits as their number. -/
def StopBits.code : StopBits → Byte
  | .one => 1
  | .two => 2

/-- Stop bits of a byte. -/
def stopBitsOf (b : Byte) : Option StopBits := if b = 1 then some .one else if b = 2 then some .two else none

/-- Image state code. -/
def ImageState.code : ImageState → Byte
  | .invalid => 0
  | .valid => 1

/-- Start-up source code. -/
def StartSource.code : StartSource → Byte
  | .image => 0
  | .noImage => 1
  | .badCheck => 2

/-- Store controller state code. -/
def Store.code : Store → Byte
  | .idle => 0
  | .erasing _ _ => 1
  | .programming _ _ _ _ => 2
  | .marking _ _ _ => 3

/-- Field request kind code (11.1). -/
def ReqKind.code : ReqKind → Byte
  | .read => 1
  | .write => 2
  | .status => 3
  | .acknowledge => 4

/-- Request code of a FIXED slot or a demand. -/
def PollKind.code : PollKind → Byte
  | .read => 1
  | .write => 2
  | .status => 3

/-- Request of a slot's or a demand's byte. -/
def pollKindOf (b : Byte) : Option PollKind :=
  if b = 1 then some .read else if b = 2 then some .write else if b = 3 then some .status else none

/-- Kind code of a descriptor. -/
def XferKind.code : XferKind → Byte
  | .read => 1
  | .write => 2

/-- Kind of a descriptor's byte. -/
def xferKindOf (b : Byte) : Option XferKind := if b = 1 then some .read else if b = 2 then some .write else none

/-- Service mode code: 0 HOST, 1 DESCRIPTOR. -/
def ServiceMode.code : ServiceMode → Byte
  | .host => 0
  | .descriptor => 1

/-- End action code: 0 ESCALATE, 1 ACKNOWLEDGE. -/
def EndAction.code : EndAction → Byte
  | .escalate => 0
  | .acknowledge => 1

/-- Result code values (11.2). -/
def ResultCode.code : ResultCode → Byte
  | .ok => 0x00
  | .accepted => 0x01
  | .badKind => 0x02
  | .badLength => 0x03
  | .badValue => 0x04
  | .busy => 0x05
  | .lineRunning => 0x06
  | .notRunning => 0x07
  | .alreadyStopping => 0x08
  | .wrongArrangement => 0x09
  | .wrongLine => 0x0A
  | .wrongDirection => 0x0B
  | .stationActive => 0x0C
  | .stationDisabled => 0x0D
  | .duplicateAddress => 0x0E
  | .descriptorBusy => 0x0F
  | .pairCommitted => 0x10
  | .full => 0x11
  | .none => 0x12
  | .stackFull => 0x13
  | .stackEmpty => 0x14
  | .isProtected => 0x15

/-- The request kind of a FIXED slot's or demand's frame. -/
def PollKind.req : PollKind → ReqKind
  | .read => .read
  | .write => .write
  | .status => .status

/-- The request kind of a transfer's frame. -/
def XferKind.req : XferKind → ReqKind
  | .read => .read
  | .write => .write

/-- The direction a transfer needs of its pair: CAPTURE for READ, OUTPUT for WRITE (R95). -/
def XferKind.direction : XferKind → Direction
  | .read => .capture
  | .write => .output

/-! ### Port settings (5 bytes) -/

/-- The settings of five bytes; none when a value is outside its range in R1. -/
def PortSettings.ofBytes : List Byte → Option PortSettings
  | [rate, parity, stop, timeout, gap] =>
    match finOf 9 rate, parityOf parity, stopBitsOf stop, finOf 4 timeout with
    | some r, some p, some sb, some t => if 1 ≤ gap.toNat ∧ gap.toNat ≤ 16 then some ⟨r, p, sb, t, gap⟩ else none
    | _, _, _, _ => none
  | _ => none

/-- Rate code, parity, stop bits, reply timeout code, turnaround gap. -/
def PortSettings.toBytes (p : PortSettings) : List Byte :=
  [byteOf p.rate.val, p.parity.code, p.stopBits.code, byteOf p.replyTimeout.val, p.gap]

/-! ### Bank header (5 bytes) -/

/-- The header of five bytes; none when a value is outside its range in R36. -/
def BankHeader.ofBytes : List Byte → Option BankHeader
  | [p1, p0, n, k1, k0] =>
    match finOf 129 n with
    | some c => if 10 ≤ (wordOf p1 p0).toNat then some ⟨wordOf p1 p0, c, wordOf k1 k0⟩ else none
    | none => none
  | _ => none

/-- Period, slot count, slack. -/
def BankHeader.toBytes (h : BankHeader) : List Byte :=
  wordBytes h.period ++ [byteOf h.slotCount.val] ++ wordBytes h.slack

/-! ### Station record (8 bytes) -/

/-- The configuration of a station record; none when a value is outside its range in R19. The unused bytes and the unused
bits of the flags byte are ignored (R171). -/
def StationConfig.ofBytes : List Byte → Option StationConfig
  | [flags, address, level, descriptor, retries, _, _, _] =>
    match finOf 8 level, finOf 32 descriptor, finOf 4 retries with
    | some l, some d, some r =>
      if 1 ≤ address.toNat ∧ address.toNat ≤ 127 then
        some { enabled := flags.getLsbD 0, address := address
               home := if flags.getLsbD 1 then .b else .a
               alternate := if flags.getLsbD 2 then .other else .none
               level := l
               mode := if flags.getLsbD 3 then .descriptor else .host
               descriptor := d, retries := r
               switchOnRetry := flags.getLsbD 4, sweepMember := flags.getLsbD 5 }
      else none
    | _, _, _ => none
  | _ => none

/-- The flags byte of a station record (11.3). -/
def StationConfig.flags (c : StationConfig) : Byte :=
  byteOf (flag c.enabled 1 + flag (c.home = .b) 2 + flag (c.alternate = .other) 4 + flag (c.mode = .descriptor) 8 +
    flag c.switchOnRetry 16 + flag c.sweepMember 32)

/-- The eight bytes of a station record. -/
def StationConfig.toBytes (c : StationConfig) : List Byte :=
  [c.flags, c.address, byteOf c.level.val, byteOf c.descriptor.val, byteOf c.retries.val, 0, 0, 0]

/-! ### Slot record (16 bytes) -/

/-- A divisor of the list of R37. -/
def divisorOk (b : Byte) : Bool :=
  b = 1 ∨ b = 2 ∨ b = 4 ∨ b = 8 ∨ b = 16 ∨ b = 32 ∨ b = 64 ∨ b = 128

/-- The FIXED fields of a slot record; none when a value is outside its range in R37, or when a READ or WRITE has a word
offset + count above 128 (R39). -/
def FixedFields.ofBytes (station request : Byte) (point : Word) (count pair wordOffset flipAfter : Byte) :
    Option FixedFields :=
  match finOf 64 station, pollKindOf request, finOf 16 pair, finOf 128 wordOffset, boolOf flipAfter with
  | some st, some k, some p, some w, some f =>
    if 1 ≤ count.toNat ∧ count.toNat ≤ 16 ∧ (k = .status ∨ w.val + count.toNat ≤ 128) then
      some ⟨st, k, point, count, p, w, f⟩
    else none
  | _, _, _, _, _ => none

/-- The slot of a slot record; none when a value is outside its range in R37. Bytes 5 to 12 of an ATTENTION slot are
ignored (R171). -/
def Slot.ofBytes : List Byte → Option Slot
  | [kind, o1, o0, divisor, phase, station, request, p1, p0, count, pair, wordOffset, flipAfter, _, _, _] =>
    if divisorOk divisor = true ∧ phase.toNat < divisor.toNat then
      if kind = 0 then some ⟨wordOf o1 o0, divisor, phase, none⟩
      else if kind = 1 then
        match FixedFields.ofBytes station request (wordOf p1 p0) count pair wordOffset flipAfter with
        | some f => some ⟨wordOf o1 o0, divisor, phase, some f⟩
        | none => none
      else none
    else none
  | _ => none

/-- Bytes 5 to 12 of a slot record: 0 in an ATTENTION slot (R171). -/
def fixedBytes : Option FixedFields → List Byte
  | none => [0, 0, 0, 0, 0, 0, 0, 0]
  | some f => [byteOf f.station.val, f.request.code] ++ wordBytes f.point ++
      [f.count, byteOf f.pair.val, byteOf f.wordOffset.val, boolByte f.flipAfter]

/-- The sixteen bytes of a slot record. -/
def Slot.toBytes (s : Slot) : List Byte :=
  [boolByte s.fixed.isSome] ++ wordBytes s.offset ++ [s.divisor, s.phase] ++ fixedBytes s.fixed ++ [0, 0, 0]

/-! ### Descriptor record (16 bytes) -/

/-- The descriptor of a descriptor record; none when a value is outside its range in R102, or when word offset + points per
transfer is above 128 (R104). -/
def Descriptor.ofBytes : List Byte → Option Descriptor
  | [kind, p1, p0, per, remaining, pair, wordOffset, flags, _, _, _, _, _, _, _, _] =>
    match xferKindOf kind, finOf 16 pair, finOf 128 wordOffset with
    | some k, some p, some w =>
      if 1 ≤ per.toNat ∧ per.toNat ≤ 16 ∧ w.val + per.toNat ≤ 128 then
        some { kind := k, point := wordOf p1 p0, perTransfer := per, remaining := remaining, pair := p, wordOffset := w
               advancePoint := flags.getLsbD 0, advanceOffset := flags.getLsbD 1
               endAction := if flags.getLsbD 3 then .acknowledge else .escalate
               flipAtEnd := flags.getLsbD 2 }
      else none
    | _, _, _ => none
  | _ => none

/-- The flags byte of a descriptor record (11.3). -/
def Descriptor.flags (d : Descriptor) : Byte :=
  byteOf (flag d.advancePoint 1 + flag d.advanceOffset 2 + flag d.flipAtEnd 4 + flag (d.endAction = .acknowledge) 8)

/-- The sixteen bytes of a descriptor record. -/
def Descriptor.toBytes (d : Descriptor) : List Byte :=
  [d.kind.code] ++ wordBytes d.point ++
    [d.perTransfer, d.remaining, byteOf d.pair.val, byteOf d.wordOffset.val, d.flags, 0, 0, 0, 0, 0, 0, 0, 0]

/-! ### Frames -/

/-- The bytes of a host-link frame that its check covers: LEN, KIND, TAG and the payload (R146). -/
def Frame.covered (f : Frame) : List Byte := byteOf f.payload.length :: f.kind :: f.tag :: f.payload

/-- A host-link frame as it crosses the link: sync 0xC3, the covered bytes and the check (9.2). -/
def Frame.wire (f : Frame) : List Byte := 0xC3 :: (f.covered ++ wordBytes (frameCheck f.covered))

/-- The bytes of a field request frame that its check covers (R7). -/
def FieldRequest.covered (r : FieldRequest) : List Byte :=
  [r.address, r.kind.code] ++ wordBytes r.point ++ [r.count] ++ wordsBytes r.data

/-- A field request frame as it is sent: sync 0x5A, the covered bytes and the check (R7). -/
def FieldRequest.wire (r : FieldRequest) : List Byte := 0x5A :: (r.covered ++ wordBytes (frameCheck r.covered))

/-- The parts of a received reply frame, the sync included: address echo, status byte, count, data bytes and check bytes
(R7). `none` when the characters are not 6 + 2 × count in number. -/
structure ReplyFrame where
  address : Byte
  status : Byte
  count : Byte
  data : List Byte
  check : List Byte
  deriving DecidableEq, Repr

/-- Takes a received reply frame apart. -/
def ReplyFrame.ofChars : List Byte → Option ReplyFrame
  | _ :: address :: status :: count :: rest =>
    if rest.length = 2 * count.toNat + 2 then
      some ⟨address, status, count, rest.take (2 * count.toNat), rest.drop (2 * count.toNat)⟩
    else none
  | _ => none

/-- The bytes a reply's check covers: address echo through data (R7). -/
def ReplyFrame.covered (r : ReplyFrame) : List Byte := r.address :: r.status :: r.count :: r.data

end Sys2Proof.Machine
end

