-- ==== Sys2Proof/Machine/Memory.lean ====
section
/-!
DEFINITION. The nonvolatile region (10.1): four blocks of 4096 bytes, sixty-four pages of 256 bytes, held as address and
byte pairs in one canonical form, with the pages whose content the spec does not state.
-/

namespace Sys2Proof.Machine

/-- What an unlisted address reads as: an erased byte reads 0xFF (10.1). -/
def Memory.erasedByte : Byte := 0xFF

/-- Bytes in a page (10.1). -/
def Memory.pageSize : Nat := 256

/-- Pages in a block (10.1). -/
def Memory.blockPages : Nat := 16

/-- The canonical form from an address on: addresses rising, none below `lo`, no entry equal to an erased byte. -/
def Memory.wfFrom (lo : Nat) : List Host.Cell → Bool
  | [] => true
  | (a, b) :: rest => decide (lo ≤ a) && (b != Memory.erasedByte) && Memory.wfFrom (a + 1) rest

/-- The canonical form of the region's cells. -/
def Memory.wf (cells : List Host.Cell) : Bool := Memory.wfFrom 0 cells

/-- The byte the cells give an address. -/
def Memory.read (cells : List Host.Cell) (a : Nat) : Byte :=
  match cells with
  | [] => Memory.erasedByte
  | (x, b) :: rest => if x = a then b else Memory.read rest a

/-- The cells of a run of bytes laid from an address on: the bytes that are not erased bytes. -/
def Memory.run (a : Nat) : List Byte → List Host.Cell
  | [] => []
  | b :: rest => if b = Memory.erasedByte then Memory.run (a + 1) rest else (a, b) :: Memory.run (a + 1) rest

/-- The cells with the `len` addresses from `base` on laid out anew: `bytes`, cut to `len` of them, then erased bytes. -/
def Memory.lay (cells : List Host.Cell) (base len : Nat) (bytes : List Byte) : List Host.Cell :=
  cells.filter (fun c => decide (c.1 < base)) ++ Memory.run base (bytes.take len) ++
    cells.filter (fun c => decide (base + len ≤ c.1))

/-- Marks the pages from `first` on, `n` of them, as torn or not. -/
def Region.mark (r : Region) (first n : Nat) (v : Bool) : Vector Bool 64 :=
  Vector.ofFn fun i => if first ≤ i.val ∧ i.val < first + n then v else r.torn[i]

/-- The erase of a block begins: its pages lose their stated content (R160: "From the moment an erase of block 0 begins,
the marker page does not hold the marker"). -/
def Region.beginErase (r : Region) (block : Fin 4) : Region :=
  { r with torn := r.mark (block.val * Memory.blockPages) Memory.blockPages true, tears := r.tears + 1 }

/-- A block has been erased: every byte reads 0xFF (R163). -/
def Region.setErased (r : Region) (block : Fin 4) : Region :=
  { r with
    cells := Memory.lay r.cells (block.val * Memory.blockPages * Memory.pageSize)
      (Memory.blockPages * Memory.pageSize) []
    torn := r.mark (block.val * Memory.blockPages) Memory.blockPages false }

/-- The program of a page begins: the page has no stated content until it has run to its end (R160). -/
def Region.beginProgram (r : Region) (page : Nat) : Region :=
  { r with torn := r.mark page 1 true, tears := r.tears + 1 }

/-- The program of a page has run to its end: the page holds the bytes, a page being programmed whole (10.1). -/
def Region.programmed (r : Region) (page : Nat) (bytes : List Byte) : Region :=
  { r with
    cells := Memory.lay r.cells (page * Memory.pageSize) Memory.pageSize bytes
    torn := r.mark page 1 false }

/-- Whether a page has no stated content. -/
def Region.isTorn (r : Region) (page : Nat) : Bool := r.torn[page]?.getD false

/-- The byte at an address; a free value in a torn page (log entry 8). -/
def Region.read (r : Region) (a : Nat) : Byte :=
  if r.isTorn (a / Memory.pageSize) then Config.tornByte r.tears a else Memory.read r.cells a

/-- A run of bytes of the region. -/
def Region.bytes (r : Region) (base n : Nat) : List Byte := (List.range n).map fun i => r.read (base + i)

/-- The marker, "a fixed four-byte value that an erased page does not hold" (R160, 11.6). -/
def Region.marker : List Byte := [0x5A, 0xA5, 0xC3, 0x3C]

/-- Whether the marker page holds the marker. A torn marker page does not (R160). -/
def Region.holdsMarker (r : Region) : Bool := !r.isTorn 0 && decide (r.bytes 0 4 = Region.marker)

/-- The image pages as start-up reads them: pages 1 to 21 in page order (R160). -/
def Region.imagePages (r : Region) : List Byte := r.bytes Memory.pageSize (21 * Memory.pageSize)

/-- Whether the image check in the marker page is the check over the image pages (R160, R168). -/
def Region.checkGood (r : Region) : Bool := decide (r.bytes 4 2 = wordBytes (frameCheck r.imagePages))

end Sys2Proof.Machine
end

