-- ==== Sys2Proof/Machine/Images.lean ====
section
/-!
DEFINITION. The stored image: its pages (R160, 11.6), and reading them back with the range checks of start-up (R168).
-/

namespace Sys2Proof.Machine

/-- Bytes cut or filled with unused zero bytes to a length: "A save writes unused bytes of the image pages as 0" (R171). -/
def padTo (n : Nat) (bytes : List Byte) : List Byte := bytes.take n ++ List.replicate (n - bytes.length) 0

/-- Page 1 (11.6): the part's settings, 42 bytes. -/
def Image.settingsBytes (m : Image) : List Byte :=
  [m.arrangement.code] ++ m.portA.toBytes ++ m.portB.toBytes ++
    [byteOf m.mask.val, byteOf m.demandLevel.val, m.enables.toByte, boolByte m.autostartA, boolByte m.autostartB] ++
    m.headerA.toBytes ++ m.headerB.toBytes ++ m.directions.toList.map Direction.code

/-- The bytes of the image pages, pages 1 to 21 in page order (R160, 11.6). -/
def Image.pages (m : Image) : List Byte :=
  padTo Memory.pageSize m.settingsBytes ++ m.stations.toList.flatMap StationConfig.toBytes ++
    m.slotsA.toList.flatMap Slot.toBytes ++ m.slotsB.toList.flatMap Slot.toBytes ++
    m.descriptors.toList.flatMap Descriptor.toBytes

/-- The bytes a save programs into a page: the marker and the image check into page 0, the rest of which stays erased
(R163, R171); the image's own bytes into pages 1 to 21. -/
def Image.pageBytes (m : Image) (page : Nat) : List Byte :=
  if page = 0 then Region.marker ++ wordBytes (frameCheck m.pages)
  else (m.pages.drop ((page - 1) * Memory.pageSize)).take Memory.pageSize

/-- A record of a run of equal records. -/
def recordAt (bytes : List Byte) (base size i : Nat) : List Byte := (bytes.drop (base + size * i)).take size

/-- All of `n` readings, or none when one of them is none. -/
def readAll {α : Type} (n : Nat) (f : Fin n → Option α) : Option (Vector α n) :=
  if h : ∀ i, (f i).isSome = true then some (Vector.ofFn fun i => (f i).get (h i)) else none

/-- Two stations of an arrangement in one scope: in INDEPENDENT those of one home line, in PAIRED all (R21). -/
def sameScope (arr : Arrangement) (c d : StationConfig) : Bool :=
  match arr with
  | .paired => true
  | .independent => decide (c.home = d.home)

/-- Two enabled stations of one scope with one address (R21). -/
def clash (arr : Arrangement) (c d : StationConfig) : Bool :=
  c.enabled && d.enabled && decide (c.address = d.address) && sameScope arr c d

/-- Whether two different stations clash. -/
def anyClash (arr : Arrangement) (cs : Fin 64 → StationConfig) : Bool :=
  (List.finRange 64).any fun i => (List.finRange 64).any fun j => decide (i ≠ j) && clash arr (cs i) (cs j)

/-- The image that the bytes of pages 1 to 21 hold; none when an item is outside its range (R168, step 3). Base addresses
are those of R160's table, less the 256 bytes of page 0. -/
def Image.ofPages (b : List Byte) : Option Image :=
  match arrangementOf (b.getD 0 0), PortSettings.ofBytes (recordAt b 1 5 0), PortSettings.ofBytes (recordAt b 6 5 0),
    finOf 8 (b.getD 11 0), finOf 8 (b.getD 12 0), boolOf (b.getD 14 0), boolOf (b.getD 15 0),
    BankHeader.ofBytes (recordAt b 16 5 0), BankHeader.ofBytes (recordAt b 21 5 0),
    readAll 16 (fun i => directionOf (b.getD (26 + i.val) 0)) with
  | some arr, some pa, some pb, some m, some d, some sa, some sb, some ha, some hb, some dirs =>
    match readAll 64 (fun i => StationConfig.ofBytes (recordAt b 256 8 i.val)),
      readAll 128 (fun i => Slot.ofBytes (recordAt b 768 16 i.val)),
      readAll 128 (fun i => Slot.ofBytes (recordAt b 2816 16 i.val)),
      readAll 32 (fun i => Descriptor.ofBytes (recordAt b 4864 16 i.val)) with
    | some st, some xa, some xb, some ds =>
      if anyClash arr (fun i => st[i]) then none
      else some { arrangement := arr, portA := pa, portB := pb, mask := m, demandLevel := d,
                  enables := Enables.ofByte (b.getD 13 0), autostartA := sa, autostartB := sb, headerA := ha,
                  headerB := hb, directions := dirs, stations := st, slotsA := xa, slotsB := xb, descriptors := ds }
    | _, _, _, _ => none
  | _, _, _, _, _, _, _, _, _, _ => none

/-- What the start-up check finds in a region: the source, with the image under source IMAGE (R168). -/
def Region.check (r : Region) : StartSource × Option Image :=
  if r.holdsMarker then
    if r.checkGood then
      match Image.ofPages r.imagePages with
      | some m => (.image, some m)
      | none => (.badCheck, none)
    else (.badCheck, none)
  else (.noImage, none)

end Sys2Proof.Machine
end

