-- ==== Sys2Proof/Machine/Ops.lean ====
section
/-!
DEFINITION. The named operations over State that every family shares: reading and writing the records, the clock, notices
and the transmitter, scope, and the two operations on a pair (an engine's write, a flip).
-/

namespace Sys2Proof.Machine

/-! ### Reading and writing records -/

/-- The engine of a side. -/
def State.engine (s : State) : Engine → EngineState
  | .a => s.engineA
  | .b => s.engineB

/-- Changes one engine. -/
def State.withEngine (s : State) (e : Engine) (f : EngineState → EngineState) : State :=
  match e with
  | .a => { s with engineA := f s.engineA }
  | .b => { s with engineB := f s.engineB }

/-- The port of a side. -/
def State.port (s : State) : PortId → Port
  | .a => s.portA
  | .b => s.portB

/-- Changes one port. -/
def State.withPort (s : State) (p : PortId) (f : Port → Port) : State :=
  match p with
  | .a => { s with portA := f s.portA }
  | .b => { s with portB := f s.portB }

/-- A station record. -/
def State.station (s : State) (i : Fin 64) : Station := s.stations[i]

/-- Changes one station record. -/
def State.withStation (s : State) (i : Fin 64) (f : Station → Station) : State :=
  { s with stations := s.stations.set i (f s.stations[i]) }

/-- An attention record. -/
def State.attn (s : State) (i : Fin 64) : Attention := s.attention[i]

/-- Writes one attention record. -/
def State.setAttn (s : State) (i : Fin 64) (r : Attention) : State :=
  { s with attention := s.attention.set i r }

/-- A descriptor. -/
def State.descriptor (s : State) (d : Fin 32) : Descriptor := s.descriptors[d]

/-- Writes one descriptor. -/
def State.setDescriptor (s : State) (d : Fin 32) (r : Descriptor) : State :=
  { s with descriptors := s.descriptors.set d r }

/-- A descriptor's claim. -/
def State.claim (s : State) (d : Fin 32) : Option Engine := s.claims[d]

/-- Writes one claim. -/
def State.setClaim (s : State) (d : Fin 32) (c : Option Engine) : State := { s with claims := s.claims.set d c }

/-- A pair. -/
def State.pair (s : State) (p : Fin 16) : Pair := s.pairs[p]

/-- Writes one pair. -/
def State.setPair (s : State) (p : Fin 16) (r : Pair) : State := { s with pairs := s.pairs.set p r }

/-- The bank of a name. -/
def EngineState.bank (en : EngineState) : BankId → Bank
  | .x => en.bankX
  | .y => en.bankY

/-- Writes the bank of a name. -/
def EngineState.setBank (en : EngineState) (b : BankId) (v : Bank) : EngineState :=
  match b with
  | .x => { en with bankX := v }
  | .y => { en with bankY := v }

/-- The active bank (R36). -/
def EngineState.activeBank (en : EngineState) : Bank := en.bank en.active

/-- Whether the engine is STOPPED. -/
def EngineState.isStopped (en : EngineState) : Bool := decide (en.run = .stopped)

/-! ### The clock (R157, R51) -/

/-- A running cycle timer counts on. -/
def EngineState.advance (en : EngineState) (us : Nat) : EngineState :=
  { en with timer := en.timer.map fun t => { t with elapsed := t.elapsed + us } }

/-- A frame that is leaving goes on (R4). -/
def Port.advance (p : Port) (us : Nat) : Port :=
  { p with shifter := p.shifter.map fun x => { x with elapsed := x.elapsed + us } }

/-- Microseconds pass: the time tag counts on and wraps (R157), and the running cycle timers (R51) and the frames that are
leaving on the field lines (R4) and on the host link (R145) go on with it. -/
def State.advance (s : State) (us : Nat) : State :=
  { s with
    time := s.time + BitVec.ofNat 32 us
    engineA := s.engineA.advance us, engineB := s.engineB.advance us
    portA := s.portA.advance us, portB := s.portB.advance us
    tx := s.tx.map fun x => { x with elapsed := x.elapsed + us } }

/-- The cycle timer of an engine reads at least `us`: the event that is taken there is the moment at which it does, so the
clock has counted on to it (log entry 4). -/
def State.reach (s : State) (e : Engine) (us : Nat) : State :=
  match (s.engine e).timer with
  | some t => s.advance (us - t.elapsed)
  | none => s

/-! ### The transmitter (R151) -/

/-- A free transmitter begins the reply waiting in the slot, or else the notice at the head of the queue (R151). -/
def State.transmit (s : State) : State :=
  match s.tx with
  | some _ => s
  | none =>
    match s.replySlot with
    | some f => { s with tx := some ⟨.reply f, 0⟩, replySlot := none }
    | none =>
      match s.notices with
      | n :: rest => { s with tx := some ⟨.notice n, 0⟩, notices := rest }
      | [] => s

/-! ### Notices (R152, R153) -/

/-- Whether a notice of this kind is queued under the enables; the other kinds are not gated (R152). -/
def Notice.enabled (n : Notice) (e : Enables) : Bool :=
  match n with
  | .escalation .. => e.escalation
  | .pairFlipped .. => e.pairFlipped
  | .stationState .. => e.stationState
  | .cycleReport .. => e.cycleReport
  | .lineStopped .. => e.lineState
  | .lineCall .. => e.lineState
  | .started .. => true
  | .demandResult .. => true
  | .storeResult .. => true

/-- A notice joins the tail of the queue, or is discarded with the overrun flag set when the queue is full (R153). -/
def State.queueNotice (n : Notice) (s : State) : State :=
  if s.notices.length < Config.noticeEntries then { s with notices := s.notices ++ [⟨n, s.time⟩] }
  else { s with overrun := true }

/-- A notice is raised: it takes the time tag of this moment and is queued while its kind is enabled, and dropped without
trace otherwise (R152); "A reply or notice arriving at a free transmitter begins at once" (R151). -/
def State.raise (n : Notice) (s : State) : State :=
  if n.enabled s.enables then (s.queueNotice n).transmit else s

/-! ### Scope and use of ports (R2, R21) -/

/-- The engine in whose scope a station is (R21). -/
def scopeOf (arr : Arrangement) (c : StationConfig) : Engine :=
  match arr with
  | .independent => c.home
  | .paired => .a

/-- The engine that uses a port (R2). -/
def portUser (arr : Arrangement) (p : PortId) : Engine :=
  match arr with
  | .independent => p
  | .paired => .a

/-- Whether a station is in an engine's scope. -/
def State.inScope (s : State) (e : Engine) (i : Fin 64) : Bool := decide (scopeOf s.arrangement (s.station i).config = e)

/-! ### Choices over the stations -/

/-- The lowest index that satisfies `p`. -/
def lowest (p : Fin 64 → Bool) : Option (Fin 64) := (List.finRange 64).find? p

/-- Keeps the better of two stations: the higher level, and the earlier one of equal levels. -/
def better (lvl : Fin 64 → Nat) (best : Option (Fin 64)) (i : Fin 64) : Option (Fin 64) :=
  match best with
  | none => some i
  | some j => if lvl j < lvl i then some i else some j

/-- Among the stations that satisfy `p`, the one of the highest level, and of equal levels the lowest index. -/
def highest (p : Fin 64 → Bool) (lvl : Fin 64 → Nat) : Option (Fin 64) :=
  (List.finRange 64).foldl (fun best i => if p i then better lvl best i else best) none

/-- How many stations satisfy `p`. -/
def countStations (p : Fin 64 → Bool) : Nat := (List.finRange 64).countP p

/-! ### The escalated set and the service level (R133, R134) -/

/-- Whether a station is in the escalated set (R133). -/
def State.isEscalated (s : State) (i : Fin 64) : Bool := decide ((s.attn i).state = .escalated)

/-- The head of the escalated set: highest level first, then lowest index (R133). -/
def State.escalatedHead (s : State) : Option (Fin 64) := highest s.isEscalated fun i => (s.attn i).level.val

/-- The escalated count (R133). -/
def State.escalatedCount (s : State) : Nat := countStations s.isEscalated

/-- The service level: the level of the top entry, or 0 when the stack is empty (R134). -/
def State.serviceLevel (s : State) : Fin 9 :=
  match s.stack with
  | [] => 0
  | x :: _ => x.level

/-- The ESCALATION notice that names a station (R135); `origin` none is RE-OFFER. -/
def State.escalationNotice (s : State) (i : Fin 64) (origin : Option Origin) : Notice :=
  .escalation i (s.attn i).level (s.attn i).cls (s.station i).config.mode origin s.escalatedCount s.serviceLevel

/-- An ESCALATED entry is handed to the Escalation Unit: an ENTRY notice is raised when its level is above the service
level (R135). -/
def State.handOver (s : State) (i : Fin 64) (origin : Origin) : State :=
  if s.serviceLevel < (s.attn i).level then s.raise (s.escalationNotice i (some origin)) else s

/-! ### Pairs (chapter 7) -/

/-- The words of a half. -/
def Pair.half (p : Pair) : Half → Vector Word 128
  | .zero => p.half0
  | .one => p.half1

/-- Writes the words of a half. -/
def Pair.setHalf (p : Pair) (h : Half) (v : Vector Word 128) : Pair :=
  match h with
  | .zero => { p with half0 := v }
  | .one => { p with half1 := v }

/-- The half that is not the working half (R115). -/
def Pair.hostHalf (p : Pair) : Half := p.working.other

/-- A half with words written from an index on, in order; words outside the written range keep their values (R122). -/
def writeWords (v : Vector Word 128) (start : Nat) (ws : List Word) : Vector Word 128 :=
  Vector.ofFn fun i => if start ≤ i.val ∧ i.val < start + ws.length then ws.getD (i.val - start) 0 else v[i]

/-- A run of words of a half. -/
def readWords (v : Vector Word 128) (start n : Nat) : List Word := (List.range n).map fun k => v[start + k]?.getD 0

/-- The words of a GOOD READ go into the half that is the fill half at this moment, and the capture stamp takes the time tag
of the write (R122). -/
def State.captureWords (s : State) (p : Fin 16) (start : Nat) (ws : List Word) : State :=
  let r := s.pair p
  s.setPair p { r.setHalf r.working (writeWords (r.half r.working) start ws) with captureStamp := s.time }

/-- Words of the half that is the send half at this moment (R124). -/
def State.sendWords (s : State) (p : Fin 16) (start n : Nat) : List Word :=
  readWords ((s.pair p).half (s.pair p).working) start n

/-- Whether the host has finished with its half: RELEASED in CAPTURE, COMMITTED in OUTPUT (R115). -/
def Pair.finished (p : Pair) : Bool :=
  match p.direction with
  | .capture => decide (p.hostState = .released)
  | .output => decide (p.hostState = .committed)

/-- The exchange of a pair's halves at a flip (R126, R127). -/
def Pair.exchange (p : Pair) (now : Stamp) : Pair :=
  { p with
    working := p.working.other
    hostState := match p.direction with
      | .capture => .unread
      | .output => .editing
    sequence := p.sequence + 1
    flipStamp := now
    miss := false }

/-- A flip event reaches a pair (R126 for CAPTURE, R127 for OUTPUT): when the host has finished with its half the halves
exchange and a PAIR-FLIPPED notice is raised, which carries the miss flag as it stood before it cleared (R129); otherwise
the flip misses and the miss flag is set (R128). R131's first row has a flip on COMMITTED miss; R127 and the rows of R131 for
PAIR-WRITE and for two flips have it exchange, which is what is done (log entry 23). -/
def State.flip (s : State) (e : Engine) (p : Fin 16) (cause : FlipCause) : State :=
  let r := s.pair p
  if r.finished then
    let r' := r.exchange s.time
    (s.setPair p r').raise (.pairFlipped p r.direction cause e r'.hostHalf r'.sequence r.miss r.captureStamp)
  else s.setPair p { r with miss := true }

end Sys2Proof.Machine
end

