-- ==== Sys2Proof/Machine/Ports.lean ====
section
/-!
DEFINITION. The Line Ports as the engines use them (chapter 1): the intervals of R1, beginning and ending an attempt, abort,
and the classification of a reply.
-/

namespace Sys2Proof.Machine

/-- The reply timeout in character times: 2, 4, 16 or 64 (R1). -/
def PortSettings.timeoutChars (c : PortSettings) : Nat :=
  match c.replyTimeout with
  | 0 => 2
  | 1 => 4
  | 2 => 16
  | 3 => 64

/-- An interval that begins now is measured with the settings as they stand now, and keeps its length (R1). -/
def PortSettings.interval (c : PortSettings) (use : IntervalUse) : Interval :=
  { use := use
    chars := match use with
      | .replyTimeout => c.timeoutChars
      | .replyGap => 2
      | .turnaround => c.gap.toNat
      | .lineCall => 2
    bits := c.format.bits
    rate := c.rate }

/-- An interval of a port begins. -/
def Port.begin (p : Port) (use : IntervalUse) : Port := { p with interval := some (p.settings.interval use) }

/-- DE is asserted exactly while the port is sending (R4, 1.5). -/
def Port.de (p : Port) : Bool :=
  match p.phase with
  | .sending _ => true
  | _ => false

/-! ### The transmitter (R4, R15) -/

/-- Bit times since the frame's first start bit began. -/
def Shifter.bitTime (x : Shifter) : Nat := x.elapsed * x.format.bitRate / 1000000

/-- The index of the character that is shifting; behind the last stop bit it stays at the last character. -/
def Shifter.index (x : Shifter) : Nat := min (x.bitTime / x.format.bits) (x.chars.length - 1)

/-- The character that is shifting (R4). -/
def Shifter.shifting (x : Shifter) : Option Byte := x.chars[x.index]?

/-- The character that is held while another is shifting (R4). -/
def Shifter.held (x : Shifter) : Option Byte := x.chars[x.index + 1]?

/-- The frame's levels on TXD, one for each bit time, its characters back to back (R4). -/
def Shifter.levels (x : Shifter) : List Level := x.chars.flatMap x.format.levels

/-- An abort: the character now shifting is finished, and the held one and the rest of the frame are dropped (R15). -/
def Shifter.cut (x : Shifter) : Shifter := { x with chars := x.chars.take (x.index + 1) }

/-- The level on TXD: the bit that is shifting, and high between request frames (R4). -/
def Port.txd (p : Port) : Level :=
  match p.shifter with
  | some x => x.levels.getD x.bitTime .high
  | none => .high

/-! ### Phases (R8, R14, R15) -/

/-- Whether the receiver is on: AWAITING, RECEIVING or DISCARDING (R5). -/
def Port.receiving (p : Port) : Bool :=
  match p.phase with
  | .awaiting _ _ => true
  | .receiving _ _ => true
  | .discarding _ _ => true
  | _ => false

/-- An IDLE port enters SENDING with an attempt and begins the frame's first start bit; its line monitor is suspended, and a
running timing of a low level is cancelled (R8, R17). -/
def Port.send (a : Attempt) (p : Port) : Port :=
  { p with
    phase := .sending (some a), waiting := none, monitor := .suspended, interval := none
    shifter := some ⟨p.settings.format, a.request.wire, 0⟩ }

/-- A port is handed an attempt: in IDLE it begins at once, in any other phase it waits in the port (R8). -/
def Port.take (a : Attempt) (p : Port) : Port :=
  match p.phase with
  | .idle => p.send a
  | _ => { p with waiting := some a }

/-- The turnaround gap begins: the transmitter is silent, the receiver goes off, and the port enters TURNAROUND (R14). -/
def Port.turn (p : Port) : Port :=
  { p with phase := .turnaround, rxChar := none, rxBreak := false, shifter := none }.begin .turnaround

/-- ABORT at a port that may carry or hold an attempt of an engine (R15): in SENDING the character now shifting is finished
and the rest is dropped; in a reply window reception stops and the turnaround gap begins; an attempt that waits is withdrawn
(R49). -/
def Port.abort (e : Engine) (p : Port) : Port :=
  let p := match p.waiting with
    | some a => if a.engine = e then { p with waiting := none } else p
    | none => p
  match p.phase with
  | .sending (some a) =>
    if a.engine = e then { p with phase := .sending none, shifter := p.shifter.map Shifter.cut } else p
  | .awaiting a _ => if a.engine = e then p.turn else p
  | .receiving a _ => if a.engine = e then p.turn else p
  | .discarding a _ => if a.engine = e then p.turn else p
  | .sending none => p
  | .turnaround => p
  | .idle => p

/-- The port enters IDLE at the end of a turnaround gap: the line monitor is ARMED if RXD is high and WAIT-HIGH if it is
low (R14, R17). -/
def Port.ready (p : Port) : Port :=
  { p with phase := .idle, monitor := .ofLevel p.rxd, interval := none }

/-- A waiting attempt begins at once when the port enters IDLE (R8, R14). -/
def Port.beginWaiting (p : Port) : Port :=
  match p.waiting with
  | some a => p.send a
  | none => p

/-- The classification of a reply frame received in full, in R12's order. -/
def classify (a : Attempt) (r : ReplyFrame) : LineOutcome :=
  if r.check ≠ wordBytes (frameCheck r.covered) then .garbled
  else if r.address ≠ a.request.address then .wrongStation
  else if statusClass r.status = 3 then .garbled
  else if statusBusy r.status then
    if r.count = 0 then .busy else .garbled
  else if r.count.toNat ≠ a.expected then .garbled
  else .good

end Sys2Proof.Machine
end

