-- ==== Sys2Proof/Machine/Arbiter.lean ====
section
/-!
DEFINITION. The Attention Arbiter and the Station Table's part in a transaction's results (chapters 2 and 5).
-/

namespace Sys2Proof.Machine

/-- A level L is eligible "when L is 8, or when L is greater than M" (R83). -/
def State.eligible (s : State) (l : Fin 9) : Bool := decide (l = 8 ∨ s.mask.val < l.val)

/-- The effective level of a class: the assigned level for class 1, 8 for class 2 (R83). -/
def effectiveLevel (c : StationConfig) (cls : Fin 3) : Fin 9 := if cls = 2 then 8 else c.level.castSucc

/-- The escalation check (R88): a HOST-mode record at an eligible level enters ESCALATED at that level. -/
def State.escalationCheck (s : State) (i : Fin 64) : State :=
  if (s.station i).config.mode = .host ∧ s.eligible (s.attn i).level = true then
    s.setAttn i { s.attn i with state := .escalated }
  else s

/-- A class processed as for a record found CLEAR or PENDING: class 0 gives CLEAR, class 1 or 2 gives PENDING at the
effective level, and then the escalation check is made (R88). -/
def State.takeClass (s : State) (i : Fin 64) (cls : Fin 3) : State :=
  if cls = 0 then s.setAttn i .none
  else (s.setAttn i ⟨.pending, effectiveLevel (s.station i).config cls, cls⟩).escalationCheck i

/-- The Arbiter takes one reply status of a transaction on a station (R88, R89). -/
def State.takeStatus (s : State) (i : Fin 64) (src : Source) (t : Status) : State :=
  match (s.attn i).state with
  | .clear => s.takeClass i t.cls
  | .pending => s.takeClass i t.cls
  | .serving => s
  | .escalated => s
  | .held => s
  | .acking =>
    match src with
    | .acknowledge => if t.busy then s else s.takeClass i t.cls
    | .fixed .. => s
    | .probe .. => s
    | .transfer .. => s
    | .sweep => s
    | .demand .. => s

/-- The OFFLINE effects on a station's record: CLEAR unless it is HELD (R92). -/
def State.offlineEffects (s : State) (i : Fin 64) : State :=
  if (s.attn i).state = .held then s else s.setAttn i .none

/-- The re-evaluation of a PENDING record at a STATION-SET (R91): the class is kept, and the level is set anew. -/
def State.reevaluate (s : State) (i : Fin 64) : State :=
  (s.setAttn i { s.attn i with level := effectiveLevel (s.station i).config (s.attn i).cls }).escalationCheck i

/-- An end action is taken for a station's record, which keeps its level and class (R95, R112). -/
def State.endAction (s : State) (i : Fin 64) (x : EndAction) : State :=
  s.setAttn i { s.attn i with
    state := match x with
      | .escalate => .escalated
      | .acknowledge => .acking }

/-! ### Station results (R27) -/

/-- A STATION-STATE notice of a station, as the record then stands (R33). -/
def State.stationNotice (s : State) (i : Fin 64) (why : StationReason) : State :=
  s.raise (.stationState i why (s.station i).health (s.station i).line (s.station i).last)

/-- R30: a reply on a port other than the current line moves the current line and raises LINE-CHANGED. -/
def State.lineChange (s : State) (i : Fin 64) (p : PortId) : State :=
  if (s.station i).line = p then s
  else (s.withStation i fun st => { st with line := p }).stationNotice i .lineChanged

/-- R32: the last status and last contact take the reply's, and a change of the fault flag raises its notice, which carries
the last status after the change (R33). -/
def State.faultChange (s : State) (i : Fin 64) (t : Status) (time : Stamp) : State :=
  let old := (s.station i).last.fault
  let s' := s.withStation i fun st => { st with last := t, lastContact := time }
  if t.fault = old then s'
  else s'.stationNotice i (if t.fault then .faultSet else .faultCleared)

/-- One reply status is taken: R30, then R32, and by the Arbiter (R27, step 1). -/
def State.takeReply (s : State) (i : Fin 64) (src : Source) (r : ReplyStatus) : State :=
  ((s.lineChange i r.port).faultChange i r.status r.time).takeStatus i src r.status

/-- The health of a fail count (R28). -/
def healthOf (n : Fin 4) : Health := if n = 0 then .online else if n = 3 then .offline else .suspect

/-- The fail count after one more failed transaction, at most 3 (R28). -/
def bumpFail (n : Fin 4) : Fin 4 := if n = 3 then 3 else n + 1

/-- Whether a final outcome is a failure: NO-REPLY, GARBLED or WRONG-STATION (R28, R60). -/
def LineOutcome.failed : LineOutcome → Bool
  | .noReply => true
  | .garbled => true
  | .wrongStation => true
  | .good => false
  | .busy => false
  | .aborted => false
  | .discarded => false

/-- Whether a final outcome is a reply: GOOD or BUSY (R28). -/
def LineOutcome.answered : LineOutcome → Bool
  | .good => true
  | .busy => true
  | .noReply => false
  | .garbled => false
  | .wrongStation => false
  | .aborted => false
  | .discarded => false

/-- The health update of a final outcome (R28), with its ONLINE or OFFLINE notice. -/
def State.healthUpdate (s : State) (i : Fin 64) (o : LineOutcome) : State :=
  let old := (s.station i).health
  if o.answered then
    let s' := s.withStation i fun st => { st with failCount := 0, health := .online }
    if old = .offline then s'.stationNotice i .online else s'
  else if o.failed then
    let n := bumpFail (s.station i).failCount
    let s' := s.withStation i fun st => { st with failCount := n, health := healthOf n }
    if old ≠ .offline ∧ healthOf n = .offline then s'.stationNotice i .offline else s'
  else s

/-- The probe toggle (R31): a failed probe of a station that is OFFLINE after the health update moves its current line, in
PAIRED with alternate OTHER. No notice is queued. -/
def State.probeToggle (s : State) (i : Fin 64) (src : Source) (o : LineOutcome) : State :=
  match src with
  | .probe .. =>
    if o.failed = true ∧ s.arrangement = .paired ∧ (s.station i).config.alternate = .other ∧
        (s.station i).health = .offline then
      s.withStation i fun st => { st with line := st.line.other }
    else s
  | .fixed .. => s
  | .transfer .. => s
  | .acknowledge => s
  | .sweep => s
  | .demand .. => s

/-- The results of one transaction are taken by the Station Table and the Arbiter (R27): each reply status in turn; the
health update; the OFFLINE effects when the station is OFFLINE after it (R92); the probe toggle; and the in-transaction field
returns to none. -/
def State.stationResults (s : State) (t : Transaction) (o : LineOutcome) : State :=
  let i := t.subject
  let s := t.statuses.foldl (fun s r => s.takeReply i t.source r) s
  let s := s.healthUpdate i o
  let s := if (s.station i).health = .offline then s.offlineEffects i else s
  let s := s.probeToggle i t.source o
  s.withStation i fun st => { st with inTransaction := none }

end Sys2Proof.Machine
end

