-- ==== Sys2Proof/Machine/Transactions.lean ====
section
/-!
DEFINITION. Transactions (chapter 4) with the completion of descriptor transfers (chapter 6), the sweep search that a sweep
step's end makes (5.7), and an engine's stop (R50).
-/

namespace Sys2Proof.Machine

/-! ### Line choice and attempts -/

/-- The line of a transaction's first attempt (R69): the engine's own line in INDEPENDENT, the subject's current line in
PAIRED. -/
def State.firstLine (s : State) (e : Engine) (i : Fin 64) : Line :=
  match s.arrangement with
  | .independent => e
  | .paired => (s.station i).line

/-- The line of a later attempt, from the line and the outcome of the attempt before it (R69). -/
def State.laterLine (s : State) (i : Fin 64) (previous : Line) (o : LineOutcome) : Line :=
  match s.arrangement with
  | .independent => previous
  | .paired =>
    if o = .busy then previous
    else if (s.station i).config.alternate = .other ∧ (s.station i).config.switchOnRetry = true then previous.other
    else previous

/-- An engine hands a port the next attempt of a transaction, and the transaction notes its line (R64, R67). -/
def State.handAttempt (s : State) (e : Engine) (t : Transaction) (line : Line) : State :=
  (s.withEngine e fun en => { en with activity := .inTransaction { t with lastLine := some line } }).withPort line
    (Port.take ⟨e, t.request, t.expected⟩)

/-! ### Issue (R65, R66) -/

/-- The attempt limit of the station's retry policy: its retries field plus 1 (R66). -/
def retryLimit (c : StationConfig) : Nat := c.retries.val + 1

/-- The transaction that a source, a request and a limit make for a station (R64, R65 steps 3 to 5). -/
def State.build (s : State) (i : Fin 64) (src : Source) (kind : ReqKind) (point : Word) (count : Byte)
    (data : List Word) (limit : Nat) : Transaction :=
  { subject := i, source := src
    request := ⟨(s.station i).config.address, kind, point, count, data⟩
    expected := if kind = .read then count.toNat else 0
    limit := limit, made := 0, lastLine := none, statuses := [], readData := [], outcome := none }

/-- Issue claims a transfer's descriptor (R65, step 2). -/
def State.claimFor (s : State) (e : Engine) (src : Source) : State :=
  match src with
  | .transfer d => s.setClaim d (some e)
  | .fixed .. => s
  | .probe .. => s
  | .acknowledge => s
  | .sweep => s
  | .demand .. => s

/-- An engine issues a transaction (R65): the subject is marked, the descriptor of a transfer is claimed, the slot has
started, and the first attempt is handed to the port chosen by R69. -/
def State.issue (s : State) (e : Engine) (t : Transaction) : State :=
  let s1 := (s.withStation t.subject fun st => { st with inTransaction := some e }).claimFor e t.source
  (s1.withEngine e fun en => { en with started := true }).handAttempt e t (s1.firstLine e t.subject)

/-! ### Sweep search (R93, R99) -/

/-- A candidate of an engine, with the passed-over list of the grant (R93). -/
def State.candidate (s : State) (e : Engine) (passed : List (Fin 64)) (i : Fin 64) : Bool :=
  (s.station i).config.enabled && s.inScope e i && decide ((s.station i).health ≠ .offline) &&
    decide ((s.station i).inTransaction = none) && decide (i ∉ passed)

/-- A station at which the sweep search stops (R99). -/
def State.sweepFit (s : State) (e : Engine) (passed : List (Fin 64)) (i : Fin 64) : Bool :=
  (s.station i).config.sweepMember && s.candidate e passed i && decide ((s.attn i).state = .clear) &&
    decide (i ∉ (s.engine e).visited)

/-- The search of R99: from the sweep cursor upward, wrapping from 63 to 0, through all 64 indices at most. -/
def State.sweepSearch (s : State) (e : Engine) (passed : List (Fin 64)) : Option (Fin 64) :=
  ((List.range 64).map fun k => (s.engine e).cursor + Fin.ofNat 64 k).find? (s.sweepFit e passed)

/-- A sweep ends: call-pending clears, the visited list is emptied, and the cursor is kept (R98). -/
def State.endSweep (s : State) (e : Engine) : State :=
  s.withEngine e fun en => { en with callPending := false, visited := [] }

/-! ### Ending a transaction (R70, R71, R110) -/

/-- Step 1 of R70: the words of a GOOD READ go to the source's destination (R122, R110). A demand's words are kept for its
notice; a probe, an acknowledgement and a sweep step return none. -/
def State.deliverWords (s : State) (t : Transaction) (o : LineOutcome) : State :=
  if o = .good ∧ t.request.kind = .read then
    match t.source with
    | .fixed _ f => s.captureWords f.pair f.wordOffset.val t.readData
    | .transfer d => s.captureWords (s.descriptor d).pair (s.descriptor d).wordOffset.val t.readData
    | .probe .. => s
    | .acknowledge => s
    | .sweep => s
    | .demand .. => s
  else s

/-- The DEMAND-RESULT notice of a demand (R81): its last status is the station's at this moment, and the data is carried for
READ with outcome GOOD alone. -/
def State.demandNotice (s : State) (e : Engine) (q : Demand) (o : LineOutcome) (attempts : Nat) (data : List Word) : State :=
  s.raise (.demandResult q.tag e q.station q.kind o attempts (s.station q.station).last
    (if o = .good ∧ q.kind = .read then data else []))

/-- A word offset moved on by the points per transfer, with wrap to 0 when the next transfer's words would not fit (R110,
step 4). -/
def Descriptor.nextOffset (r : Descriptor) : Fin 128 :=
  if h : r.wordOffset.val + r.perTransfer.toNat + r.perTransfer.toNat ≤ 128 ∧
      r.wordOffset.val + r.perTransfer.toNat < 128 then
    ⟨r.wordOffset.val + r.perTransfer.toNat, h.2⟩
  else 0

/-- Whether a GOOD transfer wraps the word offset (R110, step 4). -/
def Descriptor.wraps (r : Descriptor) : Bool :=
  r.advanceOffset && decide (128 < r.wordOffset.val + r.perTransfer.toNat + r.perTransfer.toNat)

/-- The descriptor after a GOOD transfer: count, point and offset (R110, steps 2 to 4). The remaining count never falls
below 0. -/
def Descriptor.advance (r : Descriptor) : Descriptor :=
  { r with
    remaining := if r.remaining = 0 then 0 else r.remaining - 1
    point := if r.advancePoint then r.point + r.perTransfer.setWidth 16 else r.point
    wordOffset := if r.advanceOffset then r.nextOffset else r.wordOffset }

/-- Steps 2 to 5 of R110 for a GOOD transfer of a station: the descriptor advances, a wrap flip is sent, and a descriptor
that is now spent gives its end action to the subject and, with flip-at-end, its end flip. The end action is taken for a
record that is SERVING (R112). -/
def State.completeTransfer (s : State) (e : Engine) (i : Fin 64) (d : Fin 32) : State :=
  let r := s.descriptor d
  let s := s.setDescriptor d r.advance
  let s := if r.wraps then s.flip e r.pair (.descriptorWrap d) else s
  if r.advance.remaining = 0 then
    let s := if (s.attn i).state = .serving then s.endAction i r.endAction else s
    if r.flipAtEnd then s.flip e r.pair (.descriptorEnd d) else s
  else s

/-- The end of a sweep step (R100): a class 1 or 2 in its reply ends the sweep; otherwise the search of R99 is made as a
test, and a sweep that finds no station ends. -/
def State.sweepStepEnd (s : State) (e : Engine) (t : Transaction) : State :=
  if t.statuses.any (fun r => decide (r.status.cls ≠ 0)) then s.endSweep e
  else if (s.sweepSearch e []).isNone then s.endSweep e
  else s

/-- Step 3 of R70: the source completion of R71. -/
def State.sourceCompletion (s : State) (e : Engine) (t : Transaction) (o : LineOutcome) : State :=
  match t.source with
  | .transfer d => (if o = .good then s.completeTransfer e t.subject d else s).setClaim d none
  | .sweep => s.sweepStepEnd e t
  | .demand q => s.demandNotice e q o t.made t.readData
  | .fixed .. => s
  | .probe .. => s
  | .acknowledge => s

/-- Whether a slot's end sends a flip event to its pair: a READ or WRITE with flip-after yes (R57, R58). -/
def FixedFields.flips (f : FixedFields) : Bool := f.flipAfter && decide (f.request ≠ .status)

/-- Step 4 of R70: the flip event of a FIXED slot or of the probe run in its place. -/
def State.slotFlip (s : State) (e : Engine) (t : Transaction) : State :=
  match t.source with
  | .fixed n f => if f.flips then s.flip e f.pair (.slot n) else s
  | .probe n f => if f.flips then s.flip e f.pair (.slot n) else s
  | .transfer _ => s
  | .acknowledge => s
  | .sweep => s
  | .demand .. => s

/-- Step 5 of R70: a failed transaction counts in the cycle in progress. A transaction that ends after the period expiry at
which the engine stops AFTER-CYCLE counts in none (R60): the cycle timer no longer runs. -/
def State.tallyFailed (s : State) (e : Engine) (o : LineOutcome) : State :=
  if o.failed = true ∧ (s.engine e).timer.isSome = true then
    s.withEngine e fun en => { en with tallies := { en.tallies with failed := en.tallies.failed + 1 } }
  else s

/-- How a record that entered ESCALATED in a transaction's results did so (R135): a transfer's subject by its end action, any
other by a reply. -/
def Source.origin : Source → Origin
  | .transfer _ => .endAction
  | .fixed .. => .reply
  | .probe .. => .reply
  | .acknowledge => .reply
  | .sweep => .reply
  | .demand .. => .reply

/-- An entry made while a transaction's results were taken is handed over at the end of that event, if the record is then
ESCALATED (R90); `before` is the record's state before the event. -/
def State.handOverResults (s : State) (t : Transaction) (before : AttnState) : State :=
  if before ≠ .escalated ∧ (s.attn t.subject).state = .escalated then s.handOver t.subject t.source.origin else s

/-! ### Stopping (R50) -/

/-- Every demand of an engine's queue ends DISCARDED, head first, each with its DEMAND-RESULT, and the queue is left empty
(R79). -/
def State.discardDemands (s : State) (e : Engine) : State :=
  (s.engine e).demands.foldl (fun s q => s.demandNotice e q .discarded 0 [])
    (s.withEngine e fun en => { en with demands := [] })

/-- An engine's own changes on entering STOPPED (R50, steps 1, 2 and 4; the visited list is emptied by R98). -/
def EngineState.halt (en : EngineState) : EngineState :=
  { en with
    run := .stopped, timer := none, activity := .none, started := false, callPending := false, cursor := 0,
    visited := [], tallies := .zero }

/-- An engine enters STOPPED by a stop mode (R50): under ABORT its demands are discarded; then LINE-STATE STOPPED is
raised. -/
def State.stopEngine (s : State) (e : Engine) (mode : StopMode) : State :=
  let s := s.withEngine e EngineState.halt
  let s := if mode = .abort then s.discardDemands e else s
  s.raise (.lineStopped e mode (s.engine e).cycle)

/-- The slot whose transaction ends is behind the engine: the next slot index goes on if the slot started in this cycle (log
entry 12). -/
def EngineState.leaveSlot (en : EngineState) : EngineState :=
  { en with next := if en.started then en.next + 1 else en.next, started := false }

/-- Step 6 of R70: the engine enters GAP, waiting for the port of the last attempt (R55); if it is STOPPING with a mode that
waits for this end, it stops instead (R47, R48). -/
def State.leaveTransaction (s : State) (e : Engine) (port : PortId) : State :=
  let s := s.withEngine e fun en => { en.leaveSlot with activity := .gap port }
  match (s.engine e).run with
  | .stopping .afterTransaction => s.stopEngine e .afterTransaction
  | .stopping .afterCycle => if (s.engine e).timer.isNone then s.stopEngine e .afterCycle else s
  | .stopping .abort => s.stopEngine e .abort
  | .running => s
  | .stopped => s

/-- A transaction's result is final: it is handed on as one event, in R70's order. The entry of a record into ESCALATED is
handed over after the results, before the engine's own step (log entry 10). -/
def State.endTransaction (s : State) (e : Engine) (t : Transaction) (o : LineOutcome) (port : PortId) : State :=
  let before := (s.attn t.subject).state
  let s := s.deliverWords t o
  let s := s.stationResults t o
  let s := s.sourceCompletion e t o
  let s := s.slotFlip e t
  let s := s.tallyFailed e o
  let s := s.handOverResults t before
  s.leaveTransaction e port

/-! ### Attempts end (R13, R67) -/

/-- What a port reports at an attempt's end (R13). -/
structure Report where
  outcome : LineOutcome
  /-- the reply's status, for GOOD and BUSY -/
  status : Status
  /-- the data words of a GOOD reply -/
  data : List Word
  deriving DecidableEq, Repr

/-- A report without a reply. -/
def Report.bare (o : LineOutcome) : Report := ⟨o, ⟨0, false, false⟩, []⟩

/-- The transaction with a report taken in (R67, steps 1 and 2). -/
def Transaction.record (t : Transaction) (p : PortId) (r : Report) (now : Stamp) : Transaction :=
  { t with
    made := t.made + 1
    lastLine := some p
    statuses := if r.outcome.answered then t.statuses ++ [⟨p, r.status, now⟩] else t.statuses
    readData := if r.outcome = .good ∧ t.request.kind = .read then r.data else t.readData }

/-- The transaction whose result is final, with its final outcome (R64, R68). -/
def Transaction.finish (t : Transaction) (o : LineOutcome) : Transaction := { t with outcome := some o }

/-- The engine takes the report of a port and acts on it in the same event (R67). The outcome of the last attempt made is the
final one; none follows a GOOD attempt (R68). -/
def State.takeReport (s : State) (e : Engine) (p : PortId) (r : Report) : State :=
  match (s.engine e).activity with
  | .inTransaction t =>
    let t := t.record p r s.time
    if r.outcome = .good ∨ t.limit ≤ t.made then s.endTransaction e (t.finish r.outcome) r.outcome p
    else s.handAttempt e t (s.laterLine t.subject p r.outcome)
  | .none => s
  | .waiting => s
  | .gap _ => s
  | .cycleWait => s

/-- An attempt ends at a port: the turnaround gap begins, and the outcome is reported to the engine that handed the attempt
(R13, R14). -/
def State.endAttempt (s : State) (p : PortId) (a : Attempt) (r : Report) : State :=
  (s.withPort p Port.turn).takeReport a.engine p r

/-! ### Abort (R15, R49, R72) -/

/-- The source completion of an ABORTED transaction (R72, step 2). -/
def State.abortCompletion (s : State) (e : Engine) (t : Transaction) : State :=
  match t.source with
  | .transfer d => s.setClaim d none
  | .demand q => s.demandNotice e q .aborted t.made []
  | .fixed .. => s
  | .probe .. => s
  | .acknowledge => s
  | .sweep => s

/-- ABORT ends the transaction in flight (R49): the ports end or withdraw its attempt (R15), its gathered statuses are handed
on, and its source completion is made, with no health change, no flip and no tally (R72). -/
def State.abortTransaction (s : State) (e : Engine) (t : Transaction) : State :=
  let before := (s.attn t.subject).state
  let s := (s.withPort .a (Port.abort e)).withPort .b (Port.abort e)
  let t := t.finish .aborted
  let s := s.stationResults t .aborted
  let s := s.abortCompletion e t
  let s := s.handOverResults t before
  s.withEngine e EngineState.leaveSlot

/-- ABORT (R49): the transaction in flight, if there is one, ends ABORTED, and the engine stops at once. -/
def State.abortEngine (s : State) (e : Engine) : State :=
  (match (s.engine e).activity with
    | .inTransaction t => s.abortTransaction e t
    | .none => s
    | .waiting => s
    | .gap _ => s
    | .cycleWait => s).stopEngine e .abort

end Sys2Proof.Machine
end

