-- ==== Sys2Proof/Machine/Grant.lean ====
section
/-!
DEFINITION. The grant of an attention slot (5.6): the order of R94 over candidates, acknowledgements, demands and the sweep.
-/

namespace Sys2Proof.Machine

/-- What a look at one chosen station gives (R95): the order is taken again from step 1, or a transaction is issued. -/
inductive GrantStep
  | again (s : State)
  | issued (s : State)

/-- Descriptor work of a candidate (R94, steps 1, 3 and 5): DESCRIPTOR mode, PENDING or SERVING, its descriptor claimed by
neither engine (R107). -/
def State.hasWork (s : State) (e : Engine) (passed : List (Fin 64)) (i : Fin 64) : Bool :=
  s.candidate e passed i && decide ((s.station i).config.mode = .descriptor) &&
    decide ((s.attn i).state = .pending ∨ (s.attn i).state = .serving) &&
    decide (s.claim (s.station i).config.descriptor = none)

/-- Step 1 of R94: urgent descriptor work, at level 8; lowest index. -/
def State.urgentWork (s : State) (e : Engine) (passed : List (Fin 64)) : Option (Fin 64) :=
  lowest fun i => s.hasWork e passed i && decide ((s.attn i).level = 8)

/-- Step 2 of R94: acknowledgements owed; lowest index. -/
def State.owedAcknowledge (s : State) (e : Engine) (passed : List (Fin 64)) : Option (Fin 64) :=
  lowest fun i => s.candidate e passed i && decide ((s.attn i).state = .acking)

/-- Step 3 of R94: descriptor work at an eligible level above D; highest level, then lowest index. -/
def State.importantWork (s : State) (e : Engine) (passed : List (Fin 64)) : Option (Fin 64) :=
  highest (fun i => s.hasWork e passed i && s.eligible (s.attn i).level && decide (s.demandLevel.val < (s.attn i).level.val))
    fun i => (s.attn i).level.val

/-- Step 5 of R94: descriptor work at an eligible level not above D; highest level, then lowest index. -/
def State.remainingWork (s : State) (e : Engine) (passed : List (Fin 64)) : Option (Fin 64) :=
  highest (fun i => s.hasWork e passed i && s.eligible (s.attn i).level && decide ((s.attn i).level.val ≤ s.demandLevel.val))
    fun i => (s.attn i).level.val

/-- The transfer of a station's descriptor as it stands (R109). -/
def State.buildTransfer (s : State) (i : Fin 64) (d : Fin 32) : Transaction :=
  let r := s.descriptor d
  s.build i (.transfer d) r.kind.req r.point r.perTransfer
    (if r.kind = .write then s.sendWords r.pair r.wordOffset.val r.perTransfer.toNat else [])
    (retryLimit (s.station i).config)

/-- A station chosen at step 1, 3 or 5 is granted (R95): a spent descriptor's end action, handed over at once when it is
ESCALATE; a pair in the wrong direction; or the claim and the issue of a transfer, a PENDING record becoming SERVING. -/
def State.grantDescriptor (s : State) (e : Engine) (i : Fin 64) : GrantStep :=
  let d := (s.station i).config.descriptor
  let r := s.descriptor d
  if r.remaining = 0 then
    let s' := s.endAction i r.endAction
    .again (if r.endAction = .escalate then s'.handOver i .endAction else s')
  else if (s.pair r.pair).direction ≠ r.kind.direction then .again s
  else .issued ((s.setAttn i { s.attn i with state := .serving }).issue e (s.buildTransfer i d))

/-- A station chosen at step 2 is granted an ACKNOWLEDGE (R96). -/
def State.grantAcknowledge (s : State) (e : Engine) (i : Fin 64) : State :=
  s.issue e (s.build i .acknowledge .acknowledge 0 0 [] (retryLimit (s.station i).config))

/-- The transaction of a demand entry (R78). -/
def State.buildDemand (s : State) (q : Demand) : Transaction :=
  s.build q.station (.demand q) q.kind.req q.point q.count q.data (retryLimit (s.station q.station).config)

/-- Step 4 of R94 on a RUNNING engine, over its queue (R77): heads whose station is disabled or out of scope are discarded, and
the first fit head is issued. The flag says whether one was. -/
def State.serveDemands (s : State) (e : Engine) : List Demand → State × Bool
  | [] => (s, false)
  | q :: rest =>
    let s' := s.withEngine e fun en => { en with demands := rest }
    if (s.station q.station).config.enabled = true ∧ s.inScope e q.station = true then
      (s'.issue e (s'.buildDemand q), true)
    else (s'.demandNotice e q .discarded 0 []).serveDemands e rest

/-- Step 4 of R94: demands are served only while the engine is RUNNING (R59, R77). -/
def State.demandStep (s : State) (e : Engine) : State × Bool :=
  if (s.engine e).run = .running then s.serveDemands e (s.engine e).demands else (s, false)

/-- A sweep step is granted to a station (R99): it joins the visited list, the cursor goes behind it, and a STATUS with one
attempt is issued. -/
def State.grantSweep (s : State) (e : Engine) (i : Fin 64) : State :=
  let s := s.withEngine e fun en => { en with visited := en.visited ++ [i], cursor := i + 1 }
  s.issue e (s.build i .sweep .status 0 0 [] 1)

/-- Steps 6 and 7 of R94: a sweep step, the end of a sweep that finds no station, or nothing. -/
def State.sweepStep (s : State) (e : Engine) (passed : List (Fin 64)) : State × Bool :=
  if (s.engine e).callPending then
    match s.sweepSearch e passed with
    | some i => (s.grantSweep e i, true)
    | none => (s.endSweep e, false)
  else (s, false)

/-- The grant order of R94, taken again from step 1 after each station that is passed over (R93). The first argument bounds
the returns: 64 stations, each passed over once at most. The flag says whether a transaction was issued. -/
def State.grantFrom : Nat → Engine → List (Fin 64) → State → State × Bool
  | 0, _, _, s => (s, false)
  | n + 1, e, passed, s =>
    match s.urgentWork e passed with
    | some i =>
      match s.grantDescriptor e i with
      | .again s' => State.grantFrom n e (i :: passed) s'
      | .issued s' => (s', true)
    | none =>
      match s.owedAcknowledge e passed with
      | some i => (s.grantAcknowledge e i, true)
      | none =>
        match s.importantWork e passed with
        | some i =>
          match s.grantDescriptor e i with
          | .again s' => State.grantFrom n e (i :: passed) s'
          | .issued s' => (s', true)
        | none =>
          match s.demandStep e with
          | (s', true) => (s', true)
          | (s', false) =>
            match s'.remainingWork e passed with
            | some i =>
              match s'.grantDescriptor e i with
              | .again s'' => State.grantFrom n e (i :: passed) s''
              | .issued s'' => (s'', true)
            | none => s'.sweepStep e passed

/-- The grant order taken from step 1 with some stations passed over (R93). -/
def State.grantOrder (s : State) (e : Engine) (passed : List (Fin 64)) : State × Bool :=
  State.grantFrom (65 - passed.length) e passed s

/-- A grant for one engine at the start of one of its attention slots (R93). -/
def State.grant (s : State) (e : Engine) : State × Bool := s.grantOrder e []

end Sys2Proof.Machine
end

