-- ==== Sys2Proof/Machine/Engines.lean ====
section
/-!
DEFINITION. The Poll Engines' own work (chapter 3): slots, cycles and LINE-START.
-/

namespace Sys2Proof.Machine

/-! ### Slots (R53 to R59) -/

/-- Whether a slot is selected in a cycle: the cycle number divided by the divisor leaves the phase (R53). -/
def Slot.selected (sl : Slot) (cycle : Word) : Bool := decide (cycle.toNat % sl.divisor.toNat = sl.phase.toNat)

/-- Changes the tallies of an engine's cycle in progress. -/
def State.tally (s : State) (e : Engine) (f : Tallies → Tallies) : State :=
  s.withEngine e fun en => { en with tallies := f en.tallies }

/-- One more slot executed. -/
def Tallies.bumpExecuted (t : Tallies) : Tallies := { t with executed := t.executed + 1 }
/-- One more slot idle. -/
def Tallies.bumpIdle (t : Tallies) : Tallies := { t with idle := t.idle + 1 }
/-- One more slot passed. -/
def Tallies.bumpPassed (t : Tallies) : Tallies := { t with passed := t.passed + 1 }
/-- One more slot skipped late. -/
def Tallies.bumpSkipped (t : Tallies) : Tallies := { t with skippedLate := t.skippedLate + 1 }
/-- One more slot overrun. -/
def Tallies.bumpOverrun (t : Tallies) : Tallies := { t with overrun := t.overrun + 1 }
/-- One more slot refused. -/
def Tallies.bumpRefused (t : Tallies) : Tallies := { t with refused := t.refused + 1 }

/-- The words that a FIXED WRITE sends, from the send half of its pair (R58, R124). -/
def State.fixedWords (s : State) (f : FixedFields) : List Word :=
  if f.request = .write then s.sendWords f.pair f.wordOffset.val f.count.toNat else []

/-- The transaction of a FIXED slot's own request (R58, R66); a STATUS is sent with count 0 (R37). -/
def State.buildFixed (s : State) (n : Fin 128) (f : FixedFields) : Transaction :=
  s.build f.station (.fixed n f) f.request.req f.point (if f.request = .status then 0 else f.count) (s.fixedWords f)
    (retryLimit (s.station f.station).config)

/-- The probe run in place of a FIXED slot's request (R57, R66). -/
def State.buildProbe (s : State) (n : Fin 128) (f : FixedFields) : Transaction :=
  s.build f.station (.probe n f) .status 0 0 [] 1

/-- Whether a FIXED slot ends DISABLED, WRONG-LINE or CONFIG-ERROR (R56, orders 1 to 3). -/
def State.refusesSlot (s : State) (e : Engine) (f : FixedFields) : Bool :=
  !(s.station f.station).config.enabled || !s.inScope e f.station ||
    decide (f.request = .read ∧ (s.pair f.pair).direction ≠ .capture) ||
    decide (f.request = .write ∧ (s.pair f.pair).direction ≠ .output)

/-- A slot starts: a FIXED slot is handled as R56 states, an ATTENTION slot asks for a grant (R59). It is counted executed,
refused or idle, and the flag says whether a transaction was issued. -/
def State.startSlot (s : State) (e : Engine) (n : Fin 128) (sl : Slot) : State × Bool :=
  match sl.fixed with
  | some f =>
    if s.refusesSlot e f then (s.tally e .bumpRefused, false)
    else if (s.station f.station).health = .offline then
      ((s.tally e .bumpExecuted).issue e (s.buildProbe n f), true)
    else ((s.tally e .bumpExecuted).issue e (s.buildFixed n f), true)
  | none =>
    match s.grant e with
    | (s', true) => (s'.tally e .bumpExecuted, true)
    | (s', false) => (s'.tally e .bumpIdle, false)

/-- The next slot index advances. -/
def State.nextSlot (s : State) (e : Engine) : State := s.withEngine e fun en => { en with next := en.next + 1 }

/-- Sets an engine's activity. -/
def State.setActivity (s : State) (e : Engine) (a : Activity) : State := s.withEngine e fun en => { en with activity := a }

/-- A free engine takes slots in index order (R53, R54): a slot that is not selected is PASSED; one whose start time falls at or
beyond the cycle's end is waited for and never starts; a late one is SKIPPED-LATE, one whose start time has not come is waited
for, and any other starts; slots that end without a transaction are settled in this same moment (R55). With no slots left the engine enters CYCLE-WAIT. The first argument bounds the slots: 128 at most. -/
def State.takeFrom : Nat → Engine → State → State
  | 0, _, s => s
  | n + 1, e, s =>
    let en := s.engine e
    let bank := en.activeBank
    if h : en.next < 128 then
      if en.next < bank.header.slotCount.val then
        let sl := bank.slots[en.next]
        let elapsed := (en.timer.map CycleTimer.elapsed).getD 0
        if sl.selected en.cycle = false then State.takeFrom n e ((s.tally e .bumpPassed).nextSlot e)
        else if en.timer.any (fun t => decide (t.period.toNat ≤ sl.offset.toNat)) then s.setActivity e .waiting
        else if (sl.offset.toNat + bank.header.slack.toNat) * Config.unit < elapsed then
          State.takeFrom n e ((s.tally e .bumpSkipped).nextSlot e)
        else if elapsed < sl.offset.toNat * Config.unit then s.setActivity e .waiting
        else
          match s.startSlot e ⟨en.next, h⟩ sl with
          | (s', true) => s'
          | (s', false) => State.takeFrom n e (s'.nextSlot e)
      else s.setActivity e .cycleWait
    else s.setActivity e .cycleWait

/-- A free engine takes its next slot, and the slots after it that are settled in the same moment. -/
def State.takeSlots (s : State) (e : Engine) : State := State.takeFrom 129 e s

/-! ### Cycles (R51, R52, R61) -/

/-- The slots of an ending cycle from an index on are counted, as overrun when selected and as passed when not (R52). -/
def Tallies.close (t : Tallies) (cycle : Word) (slots : List Slot) : Tallies :=
  slots.foldl (fun t sl => if sl.selected cycle then t.bumpOverrun else t.bumpPassed) t

/-- The slots of an engine's cycle that were not started or settled: from the next slot index, and behind it when the slot
there has started. -/
def EngineState.slotsLeft (en : EngineState) : List Slot :=
  (en.activeBank.slots.toList.take en.activeBank.header.slotCount.val).drop (if en.started then en.next + 1 else en.next)

/-- The cycle in progress ends: its tallies are closed and become the last-cycle summary (R52). -/
def EngineState.closed (en : EngineState) : EngineState :=
  let t := en.tallies.close en.cycle en.slotsLeft
  { en with tallies := t, summary := ⟨true, en.cycle, en.active, t⟩ }

/-- Whether a cycle's end raises a CYCLE-REPORT (R61). -/
def Tallies.reports (t : Tallies) : Bool := decide (0 < t.skippedLate + t.overrun + t.refused)

/-- A cycle of an engine ends (R52), with its CYCLE-REPORT notice (R61). -/
def State.closeCycle (s : State) (e : Engine) : State :=
  let s := s.withEngine e EngineState.closed
  let en := s.engine e
  if en.tallies.reports then s.raise (.cycleReport e en.cycle en.active en.tallies) else s

/-- An armed swap is made: the banks exchange roles and the flag clears (R38). -/
def EngineState.swapIfArmed (en : EngineState) : EngineState :=
  if en.swapArmed then { en with active := en.active.other, swapArmed := false } else en

/-- The changes 3 and 4 of a cycle start (R51): the cycle start time, the period timer with the active bank's period, the next
slot index and the tallies. -/
def EngineState.openCycle (en : EngineState) (now : Stamp) : EngineState :=
  { en with
    cycleStart := now, timer := some ⟨en.activeBank.header.period, 0⟩, next := 0, started := false, tallies := .zero }

/-- A cycle start at a period expiry (R51): the armed swap, the cycle number, the new cycle, and slot 0 when the engine is free.
A slot it was waiting for is abandoned. -/
def State.startCycle (s : State) (e : Engine) : State :=
  let s := s.withEngine e fun en =>
    ({ en.swapIfArmed with cycle := en.cycle + 1 } : EngineState).openCycle s.time
  match (s.engine e).activity with
  | .waiting => s.takeSlots e
  | .cycleWait => s.takeSlots e
  | .none => s
  | .inTransaction _ => s
  | .gap _ => s

/-- The changes of an accepted LINE-START (R45), which start-up makes for an autostart too (R170): the armed swap, cycle number
0, RUNNING, the summary made absent (R60), a cycle, and slot 0. -/
def State.startEngine (s : State) (e : Engine) : State :=
  (s.withEngine e fun en =>
    ({ en.swapIfArmed with cycle := 0, run := .running, summary := .absent } : EngineState).openCycle s.time).takeSlots e

/-- The period timer of an engine expires (R51): RUNNING and AFTER-TRANSACTION end the cycle and start the next; AFTER-CYCLE
ends it and stops, or waits for the transaction in flight with no cycle timer (R47). -/
def State.periodExpires (s : State) (e : Engine) : State :=
  match (s.engine e).run with
  | .running => (s.closeCycle e).startCycle e
  | .stopping .afterTransaction => (s.closeCycle e).startCycle e
  | .stopping .afterCycle =>
    let s := s.closeCycle e
    match (s.engine e).activity with
    | .inTransaction _ => s.withEngine e fun en => { en with timer := none }
    | .none => s.stopEngine e .afterCycle
    | .waiting => s.stopEngine e .afterCycle
    | .gap _ => s.stopEngine e .afterCycle
    | .cycleWait => s.stopEngine e .afterCycle
  | .stopping .abort => s
  | .stopped => s

/-- The start time of the slot an engine is WAITING for arrives, and the slot starts (R54). A start time at or beyond the
cycle's end is never reached. -/
def State.slotStarts (s : State) (e : Engine) : State :=
  let en := s.engine e
  if h : en.next < 128 then
    match s.startSlot e ⟨en.next, h⟩ en.activeBank.slots[en.next] with
    | (s', true) => s'
    | (s', false) => (s'.nextSlot e).takeSlots e
  else s

/-- A port reports "port ready" (R14, R55): an engine in GAP for that port is free and takes its next slot. -/
def State.portReady (s : State) (e : Engine) (p : PortId) : State :=
  if (s.engine e).activity = .gap p then s.takeSlots e else s

/-! ### LINE-STOP (R46) -/

/-- The strength of a stop mode: AFTER-CYCLE, then AFTER-TRANSACTION, then ABORT (R46). -/
def StopMode.strength : StopMode → Nat
  | .afterCycle => 1
  | .afterTransaction => 2
  | .abort => 3

/-- Whether an engine holds a transaction in flight. -/
def EngineState.inTransaction (en : EngineState) : Bool :=
  match en.activity with
  | .inTransaction _ => true
  | .none => false
  | .waiting => false
  | .gap _ => false
  | .cycleWait => false

/-- The pending stop mode is set, and the engine follows it from the state it is in (R46 to R49). -/
def State.setStopping (s : State) (e : Engine) (mode : StopMode) : State :=
  let s := s.withEngine e fun en => { en with run := .stopping mode }
  match mode with
  | .afterCycle => s
  | .afterTransaction => if (s.engine e).inTransaction then s else s.stopEngine e .afterTransaction
  | .abort => s.abortEngine e

end Sys2Proof.Machine
end

