-- ==== Sys2Proof/Machine/EngineEvents.lean ====
section
/-!
DEFINITION. The meanings of PERIOD_EXPIRY and SLOT_START_TIME (R51, R54). The clock counts on to the moment of the event (log
entry 4); an event that the engine's state excludes changes nothing (log entry 3).
-/

namespace Sys2Proof.Machine

/-- PERIOD_EXPIRY (R51): the period timer of an engine expires; it expires only while it runs. -/
def execPeriodExpiry (e : Engine) (s : State) : Host.Outcome State Fault Refusal :=
  match (s.engine e).timer with
  | some t => .next ((s.reach e (t.period.toNat * Config.unit)).periodExpires e)
  | none => .next s

/-- The offset of the slot at an engine's next slot index. -/
def EngineState.nextOffset (en : EngineState) : Nat := (en.activeBank.slots[en.next]?.map fun sl => sl.offset.toNat).getD 0

/-- SLOT_START_TIME (R54): the start time of the slot an engine is WAITING for. "A start time that falls at or beyond the end of
the cycle" never comes. -/
def execSlotStartTime (e : Engine) (s : State) : Host.Outcome State Fault Refusal :=
  let en := s.engine e
  match en.timer with
  | some t =>
    if en.activity = .waiting ∧ en.nextOffset < t.period.toNat then
      .next ((s.reach e (en.nextOffset * Config.unit)).slotStarts e)
    else .next s
  | none => .next s

end Sys2Proof.Machine
end

