-- ==== Sys2Proof/Machine/LineEvents.lean ====
section
/-!
DEFINITION. The meanings of the field-line events (chapter 1). An event that the port's phase excludes changes nothing (log
entry 3).
-/

namespace Sys2Proof.Machine

/-! ### Reply windows (R9 to R12) -/

/-- What a completed character does in a reply window: the port goes on, or the attempt ends with a report. -/
inductive CharEffect
  | goesOn (p : Port)
  | ends (a : Attempt) (r : Report)

/-- The report of a reply frame received in full: it is classified at once (R10, R12), and a GOOD or BUSY reply gives its
status, a GOOD one its words (R13). -/
def Report.ofReply (a : Attempt) (chars : List Byte) : Report :=
  match ReplyFrame.ofChars chars with
  | none => .bare .garbled
  | some r =>
    match classify a r with
    | .good => ⟨.good, .ofByte r.status, (wordsOf r.data).getD []⟩
    | .busy => ⟨.busy, .ofByte r.status, []⟩
    | .noReply => .bare .noReply
    | .garbled => .bare .garbled
    | .wrongStation => .bare .wrongStation
    | .aborted => .bare .aborted
    | .discarded => .bare .discarded

/-- Whether a character can complete at the receiver (R5): one whose start bit has been seen, or one whose start bit falls from
the high level that RXD has (log entry 15). A line that is low, after a framing error or since before the window, has no start
bit until it has returned high. -/
def Port.hears (p : Port) : Bool := !p.rxBreak && (p.rxChar.isSome || decide (p.rxd = .high))

/-- What a character at the receiver is received with: what it began with, or the settings when its start bit was not shown
(R1, log entry 15). -/
def Port.rxFormat (p : Port) : CharFormat := p.rxChar.getD p.settings.format

/-- The port's receiver at the end of a character's first stop bit (R5): RXD has the level of that bit; when it is low, a
framing error, no start bit is looked for until RXD has returned high (log entry 15). -/
def Port.charEnds (p : Port) (stop : Level) : Port :=
  { p with rxd := stop, rxChar := none, rxBreak := decide (stop = .low) }

/-- The port goes on in a reply being received: the gap timer runs from this character's end (R10). -/
def Port.resume (p : Port) (phase : PortPhase) : Port := { p with phase := phase }.begin .replyGap

/-- DISCARDING with a number of characters since the sync: the attempt ends GARBLED at the 38th (R11). -/
def Port.discard (p : Port) (a : Attempt) (count : Nat) : CharEffect :=
  if Config.replyLimit ≤ count then .ends a (.bare .garbled) else .goesOn (p.resume (.discarding a count))

/-- A clean character in RECEIVING (R10): an over-long count byte moves the port to DISCARDING; the length the count fixes
completes the frame. -/
def Port.receive (p : Port) (a : Attempt) (chars : List Byte) : CharEffect :=
  if 4 ≤ chars.length ∧ 16 < (chars.getD 3 0).toNat then p.discard a chars.length
  else if 4 ≤ chars.length ∧ chars.length = 6 + 2 * (chars.getD 3 0).toNat then .ends a (.ofReply a chars)
  else .goesOn (p.resume (.receiving a chars))

/-- What a completed character does in the port's phase (R9 to R11), the receiver standing as the character left it. -/
def Port.takeChar (p : Port) (value : Byte) (clean : Bool) : CharEffect :=
  match p.phase with
  | .awaiting a expired =>
    if value = 0x5A ∧ clean = true then .goesOn (p.resume (.receiving a [value]))
    else if expired then .ends a (.bare .noReply)
    else .goesOn p
  | .receiving a chars =>
    if clean then p.receive a (chars ++ [value]) else p.discard a (chars.length + 1)
  | .discarding a count => p.discard a (count + 1)
  | .idle => .goesOn p
  | .sending _ => .goesOn p
  | .turnaround => .goesOn p

/-- A character completes at a port of the part, marked clean or in error (R5). RXD then stands as the character left it. -/
def State.fieldChar (s : State) (p : PortId) (value : Byte) (parity stop : Level) : State :=
  let x := s.port p
  if x.receiving && x.hears then
    match (x.charEnds stop).takeChar value (x.rxFormat.isClean value parity stop) with
    | .goesOn y => s.withPort p fun _ => y
    | .ends a r => (s.withPort p fun y => y.charEnds stop).endAttempt p a r
  else s

/-- FIELD_CHARACTER_RECEIVED (R5, R9 to R12); a port outside a reply window takes no characters, and one whose line has stayed
low none before it has returned high. -/
def execFieldCharacterReceived (p : PortId) (value : Byte) (sample : CharSample) (s : State) :
    Host.Outcome State Fault Refusal := .next (s.fieldChar p value sample.parity sample.stop)

/-- The characters of a reply whose last one completes the frame: from a port in RECEIVING, each clean character before the last
keeps it in RECEIVING, and the last fixes the whole (R10). -/
def completesReply (chars rest : List Byte) : Bool :=
  let all := chars ++ rest
  !rest.isEmpty && decide (4 ≤ all.length) && decide ((all.getD 3 0).toNat ≤ 16) &&
    decide (all.length = 6 + 2 * (all.getD 3 0).toNat)

/-- REPLY_FRAME_COMPLETE (R12): clean characters arrive at a port in RECEIVING, or in AWAITING from the sync on, and the last of
them completes the reply, which is classified (log entry 11). -/
def execReplyFrameComplete (p : PortId) (rest : List Byte) (s : State) : Host.Outcome State Fault Refusal :=
  match (s.port p).phase with
  | .receiving a chars =>
    if (s.port p).hears && completesReply chars rest then
      .next ((s.withPort p fun x => x.charEnds .high).endAttempt p a (.ofReply a (chars ++ rest)))
    else .next s
  | .awaiting a _ =>
    if (s.port p).hears && decide (rest.headD 0 = 0x5A) && completesReply [] rest then
      .next ((s.withPort p fun x => x.charEnds .high).endAttempt p a (.ofReply a rest))
    else .next s
  | .idle => .next s
  | .sending _ => .next s
  | .discarding _ _ => .next s
  | .turnaround => .next s

/-- REQUEST_FRAME_SENT (R9): the last stop bit of the request frame ends; DE is deasserted, and the reply timeout starts. -/
def execRequestFrameSent (p : PortId) (s : State) : Host.Outcome State Fault Refusal :=
  match (s.port p).phase with
  | .sending (some a) =>
    .next (s.withPort p fun x =>
      { x with phase := .awaiting a false, rxChar := none, rxBreak := false, shifter := none }.begin .replyTimeout)
  | .sending none => .next s
  | .idle => .next s
  | .awaiting _ _ => .next s
  | .receiving _ _ => .next s
  | .discarding _ _ => .next s
  | .turnaround => .next s

/-- REPLY_TIMEOUT (R9): the attempt ends NO-REPLY, unless a character whose start bit came before the expiry is still being
received: the decision then waits for that character. -/
def execReplyTimeout (p : PortId) (s : State) : Host.Outcome State Fault Refusal :=
  match (s.port p).phase with
  | .awaiting a false =>
    if (s.port p).rxChar.isSome then .next (s.withPort p fun x => { x with phase := .awaiting a true, interval := none })
    else .next (s.endAttempt p a (.bare .noReply))
  | .awaiting _ true => .next s
  | .idle => .next s
  | .sending _ => .next s
  | .receiving _ _ => .next s
  | .discarding _ _ => .next s
  | .turnaround => .next s

/-- REPLY_GAP_EXPIRY (R10, R11): a gap between characters exceeds 2 character times and the attempt ends GARBLED. The gap is
over once a start bit has come. -/
def execReplyGapExpiry (p : PortId) (s : State) : Host.Outcome State Fault Refusal :=
  match (s.port p).phase with
  | .receiving a _ => if (s.port p).rxChar.isSome then .next s else .next (s.endAttempt p a (.bare .garbled))
  | .discarding a _ => if (s.port p).rxChar.isSome then .next s else .next (s.endAttempt p a (.bare .garbled))
  | .idle => .next s
  | .sending _ => .next s
  | .awaiting _ _ => .next s
  | .turnaround => .next s

/-- DISCARD_LIMIT_REACHED (R11): the 38th character counted since the sync completes in DISCARDING, and the attempt ends
GARBLED. The characters before it are taken as having come, and RXD is left at the level of its stop bit, as at the end of any
character: both are the model's choice (log entries 11 and 15). As any character it cannot complete on a line that has stayed
low. -/
def execDiscardLimitReached (last : LastCharacter) (s : State) : Host.Outcome State Fault Refusal :=
  match (s.port last.port).phase with
  | .discarding a _ =>
    if (s.port last.port).hears then
      .next ((s.withPort last.port fun x => x.charEnds last.stop).endAttempt last.port a (.bare .garbled))
    else .next s
  | .idle => .next s
  | .sending _ => .next s
  | .awaiting _ _ => .next s
  | .receiving _ _ => .next s
  | .turnaround => .next s

/-- ABORTED_CHARACTER_END (R15): the last stop bit of the character that an abort left shifting ends; DE is deasserted and the
turnaround gap begins. -/
def execAbortedCharacterEnd (p : PortId) (s : State) : Host.Outcome State Fault Refusal :=
  match (s.port p).phase with
  | .sending none => .next (s.withPort p Port.turn)
  | .sending (some _) => .next s
  | .idle => .next s
  | .awaiting _ _ => .next s
  | .receiving _ _ => .next s
  | .discarding _ _ => .next s
  | .turnaround => .next s

/-- TURNAROUND_GAP_EXPIRY (R14): the port enters IDLE, reports "port ready" to the engine that uses it, and a waiting attempt
begins at once. -/
def execTurnaroundGapExpiry (p : PortId) (s : State) : Host.Outcome State Fault Refusal :=
  match (s.port p).phase with
  | .turnaround =>
    .next ((s.withPort p fun x => x.ready.beginWaiting).portReady (portUser s.arrangement p) p)
  | .idle => .next s
  | .sending _ => .next s
  | .awaiting _ _ => .next s
  | .receiving _ _ => .next s
  | .discarding _ _ => .next s

/-! ### The line monitor (R17, R18) -/

/-- A high-to-low change at the receiver starts a character, which keeps the format it began with; inside one it is a data bit
(R1, R5, log entry 15). -/
def Port.startChar (p : Port) : Port := { p with rxChar := some p.rxFormat }

/-- RXD goes low at a port (R5, R9, R17): an ARMED monitor starts timing; in a reply window it is the start bit of a character,
unless the receiver waits for RXD to return high; the gap between characters is then over. -/
def Port.goesLow (p : Port) : Port :=
  let q := { p with rxd := .low }
  match p.phase with
  | .idle => if p.monitor = .armed then { q with monitor := .timing }.begin .lineCall else q
  | .awaiting _ expired => if p.rxBreak ∨ expired = true then q else q.startChar
  | .receiving _ _ => if p.rxBreak then q else { q.startChar with interval := none }
  | .discarding _ _ => if p.rxBreak then q else { q.startChar with interval := none }
  | .sending _ => q
  | .turnaround => q

/-- RXD goes high at a port (R5, R17): a TIMING or WAIT-HIGH monitor is ARMED, with no call; a receiver that waited for it looks
for a start bit again. -/
def Port.goesHigh (p : Port) : Port :=
  let q := { p with rxd := .high, rxBreak := false }
  match p.phase with
  | .idle =>
    match p.monitor with
    | .timing => { q with monitor := .armed, interval := none }
    | .waitHigh => { q with monitor := .armed }
    | .armed => q
    | .suspended => q
  | .awaiting _ _ => q
  | .receiving _ _ => q
  | .discarding _ _ => q
  | .sending _ => q
  | .turnaround => q

/-- LINE_LOW (R17); a line that is low does not go low. -/
def execLineLow (p : PortId) (s : State) : Host.Outcome State Fault Refusal :=
  if (s.port p).rxd = .high then .next (s.withPort p Port.goesLow) else .next s

/-- LINE_HIGH (R17); a line that is high does not go high. -/
def execLineHigh (p : PortId) (s : State) : Host.Outcome State Fault Refusal :=
  if (s.port p).rxd = .low then .next (s.withPort p Port.goesHigh) else .next s

/-- A line call is delivered to the engine that uses the port (R18): it sets call-pending, or raises LINE-STATE LINE-CALL when
the engine is STOPPED. -/
def State.lineCall (s : State) (e : Engine) (p : PortId) : State :=
  if (s.engine e).isStopped then s.raise (.lineCall e p)
  else s.withEngine e fun en => { en with callPending := true }

/-- LINE_MONITOR_TIMER_EXPIRY (R17): the low has lasted 2 character times; one line call is counted. -/
def execLineMonitorTimerExpiry (p : PortId) (s : State) : Host.Outcome State Fault Refusal :=
  if (s.port p).monitor = .timing then
    .next ((s.withPort p fun x => { x with monitor := .waitHigh, interval := none }).lineCall (portUser s.arrangement p) p)
  else .next s

end Sys2Proof.Machine
end

