-- ==== Sys2Proof/Machine/StartUp.lean ====
section
/-!
DEFINITION. Reset and start-up (R158, R159, R167 to R170): every block takes its reset values, the region is checked, a valid
image is applied, marked engines are started, and STARTED is queued.
-/

namespace Sys2Proof.Machine

/-- Every block at its reset value. What a reset does not reach is kept: the waiting commands, the levels on the input pins, and
the nonvolatile region as an operation in progress has left it (R167). The straps are sampled (R145). The receiver is HUNTING
(R159): a wait for HL_RXD to return high behind a framing error ends with the reset, which the spec leaves open (log
entry 24). -/
def State.resetBlocks (s : State) : State :=
  { State.reset with
    pending := s.pending
    lr1 := s.lr1, lr0 := s.lr0, storeWp := s.storeWp
    linkRate := ⟨s.lr1, s.lr0⟩
    tx := none
    portA := .reset s.portA.rxd, portB := .reset s.portB.rxd
    region := s.region }

/-- Both banks of an engine take the image's header and slots; bank X is active and the swap is not armed (R38, R169). -/
def EngineState.load (en : EngineState) (h : BankHeader) (slots : Vector Slot 128) : EngineState :=
  { en with bankX := ⟨h, slots⟩, bankY := ⟨h, slots⟩, active := .x, swapArmed := false }

/-- The image is applied (R169). -/
def State.applyImage (s : State) (m : Image) : State :=
  { s with
    arrangement := m.arrangement
    portA := { s.portA with settings := m.portA }
    portB := { s.portB with settings := m.portB }
    mask := m.mask, demandLevel := m.demandLevel, enables := m.enables
    stations := m.stations.map Station.fresh
    engineA := s.engineA.load m.headerA m.slotsA
    engineB := s.engineB.load m.headerB m.slotsB
    descriptors := m.descriptors
    pairs := m.directions.map Pair.init }

/-- Whether an image's engine is started at start-up (R170): its autostart flag, and never Engine B in PAIRED. -/
def Image.starts (m : Image) : Engine → Bool
  | .a => m.autostartA
  | .b => m.autostartB && decide (m.arrangement = .independent)

/-- Engines marked for autostart are started, Engine A first (R170, step 1). -/
def State.autostart (s : State) (m : Image) : State :=
  let s := if m.starts .a then s.startEngine .a else s
  if m.starts .b then s.startEngine .b else s

/-- Start-up (R168 to R170): the check gives the source and the image state; a valid image is applied and its engines are
started; STARTED is queued, and the receiver begins to take bytes. -/
def State.startUp (s : State) (cause : ResetCause) : State :=
  match s.region.check with
  | (source, some m) =>
    let s := (({ s with imageState := .valid, startSource := source } : State).applyImage m).autostart m
    s.raise (.started cause source .valid s.arrangement (m.starts .a) (m.starts .b))
  | (source, none) =>
    ({ s with imageState := .invalid, startSource := source } : State).raise
      (.started cause source .invalid s.arrangement false false)

/-- A reset of the part with the start-up that follows it, one event (R159, R168). -/
def State.fullReset (s : State) (cause : ResetCause) : State := s.resetBlocks.startUp cause

end Sys2Proof.Machine
end

