-- ==== Sys2Proof/Machine/Handled.lean ====
section
/-!
DEFINITION. What a dispatched request gives (R149, R150): its reply and the state after it.
-/

namespace Sys2Proof.Machine

/-- The reply of a request and the state its event leaves. -/
structure Handled where
  reply : Reply
  state : State

/-- A request refused: "A refused request changes no state; its reply carries the result code" (00_scope.md, Requests). -/
def State.refuse (s : State) (r : ResultCode) : Handled := ⟨⟨r, []⟩, s⟩

/-- A request accepted with OK and the items of its reply. -/
def State.ok (s : State) (items : List Byte) : Handled := ⟨⟨.ok, items⟩, s⟩

/-- A request accepted whose work goes on. -/
def State.accepted (s : State) (items : List Byte) : Handled := ⟨⟨.accepted, items⟩, s⟩

end Sys2Proof.Machine
end

