-- ==== Sys2Proof/Machine/DemandRequests.lean ====
section
/-!
DEFINITION. DEMAND (4.6).
-/

namespace Sys2Proof.Machine

/-- Whether a demand's data words agree with its count (R75, step 1): exactly count words for WRITE, none for any other kind
byte. -/
def demandWordsFit (kind count : Byte) (words : List Word) : Bool :=
  if kind = 2 then decide (words.length = count.toNat) else decide (words.length = 0)

/-- Whether a demand's count is in its range (R74): 1..16 for READ and WRITE, 0 for STATUS. -/
def demandCountFits (k : PollKind) (count : Byte) : Bool :=
  match k with
  | .status => decide (count = 0)
  | .read => decide (1 ≤ count.toNat ∧ count.toNat ≤ 16)
  | .write => decide (1 ≤ count.toNat ∧ count.toNat ≤ 16)

/-- An entry joins the tail of an engine's demand queue (R74). -/
def State.queueDemand (s : State) (e : Engine) (q : Demand) : State :=
  s.withEngine e fun en => { en with demands := en.demands ++ [q] }

/-- DEMAND (R75), its checks in order; the reply carries the entry's position. -/
def State.doDemand (s : State) (tag engine station kind : Byte) (point : Word) (count : Byte) (words : List Word) :
    Handled :=
  if demandWordsFit kind count words = false then s.refuse .badLength
  else
    match sideOf engine, finOf 64 station, pollKindOf kind with
    | some e, some i, some k =>
      if demandCountFits k count = false then s.refuse .badValue
      else if e = .b ∧ s.arrangement = .paired then s.refuse .wrongArrangement
      else if s.inScope e i = false then s.refuse .wrongLine
      else if (s.station i).config.enabled = false then s.refuse .stationDisabled
      else if Config.demandEntries ≤ (s.engine e).demands.length then s.refuse .full
      else (s.queueDemand e ⟨tag, i, k, point, count, words⟩).accepted [byteOf ((s.engine e).demands.length + 1)]
    | _, _, _ => s.refuse .badValue

end Sys2Proof.Machine
end

