-- ==== Sys2Proof/Machine/DescriptorRequests.lean ====
section
/-!
DEFINITION. DESCRIPTOR-SET and DESCRIPTOR-GET (6.2).
-/

namespace Sys2Proof.Machine

/-- DESCRIPTOR-SET (R104): BAD-VALUE, then DESCRIPTOR-BUSY while it is claimed. -/
def State.doDescriptorSet (s : State) (descriptor : Byte) (record : List Byte) : Handled :=
  match finOf 32 descriptor, Descriptor.ofBytes record with
  | some d, some r => if (s.claim d).isSome then s.refuse .descriptorBusy else (s.setDescriptor d r).ok []
  | _, _ => s.refuse .badValue

/-- The subject of the transaction of an engine as a byte; 0xFF means none (11.4). -/
def State.subjectByte (s : State) : Option Engine → Byte
  | some e =>
    match (s.engine e).activity with
    | .inTransaction t => byteOf t.subject.val
    | .none => 0xFF
    | .waiting => 0xFF
    | .gap _ => 0xFF
    | .cycleWait => 0xFF
  | none => 0xFF

/-- DESCRIPTOR-GET (R106): the ten fields, the claim, and the subject of the claiming transaction. -/
def State.doDescriptorGet (s : State) (descriptor : Byte) : Handled :=
  match finOf 32 descriptor with
  | some d => s.ok ((s.descriptor d).toBytes ++ [claimCode (s.claim d), s.subjectByte (s.claim d)])
  | none => s.refuse .badValue

end Sys2Proof.Machine
end

