-- ==== Sys2Proof/Machine/EscalationRequests.lean ====
section
/-!
DEFINITION. TAKE and DONE (chapter 8).
-/

namespace Sys2Proof.Machine

/-- The descriptor summary of a TAKE reply (R137, 11.4): present in DESCRIPTOR mode alone. -/
def State.descriptorSummary (s : State) (i : Fin 64) : List Byte :=
  match (s.station i).config.mode with
  | .host => [0]
  | .descriptor =>
    let d := (s.station i).config.descriptor
    let r := s.descriptor d
    [1, byteOf d.val, r.kind.code] ++ wordBytes r.point ++
      [r.perTransfer, r.remaining, byteOf r.pair.val, byteOf r.wordOffset.val, r.endAction.code, claimCode (s.claim d)]

/-- The items of a TAKE reply, as they stand after its changes (R137). -/
def State.takeItems (s : State) (i : Fin 64) : List Byte :=
  let st := s.station i
  [byteOf i.val, byteOf (s.attn i).level.val, byteOf (s.attn i).cls.val, st.config.mode.code, st.health.code,
    sideCode st.line, st.last.toByte] ++ stampBytes st.lastContact ++
    [byteOf s.stack.length, byteOf s.escalatedCount] ++ s.descriptorSummary i

/-- The changes of an accepted TAKE (R137): the record is HELD, and its entry is pushed. -/
def State.pushStation (s : State) (i : Fin 64) : State :=
  { s.setAttn i { s.attn i with state := .held } with stack := ⟨i, (s.attn i).level⟩ :: s.stack }

/-- TAKE (R136): STACK-FULL, then NONE unless the head of the escalated set is above the service level. -/
def State.doTake (s : State) : Handled :=
  if Config.stackEntries ≤ s.stack.length then s.refuse .stackFull
  else
    match s.escalatedHead with
    | some i =>
      if s.serviceLevel < (s.attn i).level then (s.pushStation i).ok ((s.pushStation i).takeItems i)
      else s.refuse .none
    | none => s.refuse .none

/-- The popped station's record after DONE (R140): ACKING, or CLEAR when the station is OFFLINE. -/
def State.releaseStation (s : State) (i : Fin 64) : State :=
  if (s.station i).health = .offline then s.setAttn i .none
  else s.setAttn i { s.attn i with state := .acking }

/-- The re-offer check of a DONE (R141). -/
def State.reoffer (s : State) : State :=
  match s.escalatedHead with
  | some i => if s.serviceLevel < (s.attn i).level then s.raise (s.escalationNotice i none) else s
  | none => s

/-- The items of a DONE reply, as they stand after its changes (R140). -/
def State.doneItems (s : State) (i : Fin 64) : List Byte :=
  [byteOf i.val, (s.attn i).state.code, byteOf s.stack.length, byteOf s.serviceLevel.val, byteOf s.escalatedCount]

/-- DONE (R139, R140): STACK-EMPTY; the top entry is popped, its record leaves HELD, and the re-offer check is made. -/
def State.doDone (s : State) : Handled :=
  match s.stack with
  | [] => s.refuse .stackEmpty
  | x :: rest =>
    let s' := ({ s with stack := rest } : State).releaseStation x.station
    s'.reoffer.ok (s'.doneItems x.station)

end Sys2Proof.Machine
end

