-- ==== Sys2Proof/Machine/Notices.lean ====
section
/-!
DEFINITION. The frames of the notices (R152, 11.5): KIND, TAG 0 and payload; and the level on HL_TXD (R145).
-/

namespace Sys2Proof.Machine

/-- Reset cause code. -/
def ResetCause.code : ResetCause → Byte
  | .powerOn => 0
  | .resetPin => 1
  | .restart => 2

/-- Reason code of a STATION-STATE notice. -/
def StationReason.code : StationReason → Byte
  | .online => 0
  | .offline => 1
  | .lineChanged => 2
  | .faultSet => 3
  | .faultCleared => 4

/-- Cause code of an ESCALATION notice: 0 ENTRY, 1 RE-OFFER. -/
def escalationCause : Option Origin → Byte
  | some _ => 0
  | none => 1

/-- Origin code of an ESCALATION notice; 0 absent. -/
def originCode : Option Origin → Byte
  | none => 0
  | some .reply => 1
  | some .mask => 2
  | some .stationSet => 3
  | some .endAction => 4

/-- Cause code of a flip. -/
def FlipCause.code : FlipCause → Byte
  | .slot _ => 0
  | .descriptorWrap _ => 1
  | .descriptorEnd _ => 2

/-- Source index of a flip: the slot, or the descriptor (R125). -/
def FlipCause.index : FlipCause → Byte
  | .slot i => byteOf i.val
  | .descriptorWrap i => byteOf i.val
  | .descriptorEnd i => byteOf i.val

/-- Outcome code of a store operation. -/
def StoreOutcome.code : StoreOutcome → Byte
  | .saved => 0
  | .erased => 1
  | .cancelled _ _ => 2
  | .eraseFailed _ => 3
  | .programFailed _ => 4

/-- Step byte of a STORE-RESULT: block, page or controller state; 0xFF absent. -/
def StoreOutcome.step : StoreOutcome → Byte
  | .saved => 0xFF
  | .erased => 0xFF
  | .cancelled step _ => step
  | .eraseFailed block => byteOf block.val
  | .programFailed page => byteOf page

/-- Cancel cause of a STORE-RESULT: 0 absent, 1 REQUEST, 2 WRITE-PROTECT. -/
def StoreOutcome.cause : StoreOutcome → Byte
  | .cancelled _ true => 2
  | .cancelled _ false => 1
  | .saved => 0
  | .erased => 0
  | .eraseFailed _ => 0
  | .programFailed _ => 0

/-- The seven counts in the order of R60, two bytes each. -/
def Tallies.toBytes (t : Tallies) : List Byte :=
  countBytes t.executed ++ countBytes t.failed ++ countBytes t.idle ++ countBytes t.passed ++ countBytes t.skippedLate ++
    countBytes t.overrun ++ countBytes t.refused

/-- KIND of a notice (11.5). -/
def Notice.kind : Notice → Byte
  | .started .. => 0x40
  | .demandResult .. => 0x41
  | .escalation .. => 0x42
  | .pairFlipped .. => 0x43
  | .stationState .. => 0x44
  | .cycleReport .. => 0x45
  | .lineStopped .. => 0x46
  | .lineCall .. => 0x46
  | .storeResult .. => 0x48

/-- Payload of a notice with the time tag at which it was raised (11.5). -/
def Notice.payload (n : Notice) (time : Stamp) : List Byte :=
  match n with
  | .started cause source image arr a b =>
    [cause.code, source.code, image.code, arr.code, byteOf (flag a 1 + flag b 2)] ++ stampBytes time
  | .demandResult tag e i kind outcome attempts last data =>
    [tag, sideCode e, byteOf i.val, kind.code, outcome.code, byteOf attempts, last.toByte] ++ stampBytes time ++
      byteOf data.length :: wordsBytes data
  | .escalation i level cls mode origin count service =>
    [byteOf i.val, byteOf level.val, byteOf cls.val, mode.code, escalationCause origin, originCode origin, byteOf count,
      byteOf service.val] ++ stampBytes time
  | .pairFlipped p d cause e h seq miss capture =>
    [byteOf p.val, d.code, cause.code, sideCode e, cause.index, h.code] ++ wordBytes seq ++ boolByte miss ::
      (stampBytes capture ++ stampBytes time)
  | .stationState i why health line last =>
    [byteOf i.val, why.code, health.code, sideCode line, last.toByte] ++ stampBytes time
  | .cycleReport e cycle bank tallies => sideCode e :: (wordBytes cycle ++ bank.code :: (tallies.toBytes ++ stampBytes time))
  | .lineStopped e mode cycle => [sideCode e, 0, mode.code] ++ wordBytes cycle ++ stampBytes time
  | .lineCall e p => [sideCode e, 1, sideCode p, 0, 0] ++ stampBytes time
  | .storeResult save outcome image =>
    [if save then 0 else 1, outcome.code, outcome.step, outcome.cause, image.code] ++ stampBytes time

/-- The frame of a raised notice: "whose TAG is 0" (R152). -/
def Raised.frame (r : Raised) : Frame := ⟨r.notice.kind, 0, r.notice.payload r.time⟩

/-- The frame that the transmitter sends; `Frame.wire` gives its bytes on HL_TXD. -/
def TxFrame.frame : TxFrame → Frame
  | .reply f => f
  | .notice r => r.frame

/-- The levels of a frame on HL_TXD, one for each bit time: "the characters of one frame back to back" (R145). -/
def Transmission.levels (x : Transmission) : List Level := x.content.frame.wire.flatMap hostLevels

/-- The level on HL_TXD: the bit that is leaving at the rate sampled at the last reset, and high between frames (R145). -/
def State.hlTxd (s : State) : Level :=
  match s.tx with
  | some x => x.levels.getD (x.elapsed * s.linkRate.bitRate / 1000000) .high
  | none => .high

end Sys2Proof.Machine
end

