-- ==== Sys2Proof/Machine/LineRequests.lean ====
section
/-!
DEFINITION. LINE-START, LINE-STOP and LINE-STATUS (chapter 3).
-/

namespace Sys2Proof.Machine

/-- LINE-START (R45): BAD-VALUE, WRONG-ARRANGEMENT for Engine B in PAIRED, BUSY. -/
def State.doLineStart (s : State) (engine : Byte) : Handled :=
  match sideOf engine with
  | some e =>
    if e = .b ∧ s.arrangement = .paired then s.refuse .wrongArrangement
    else if (s.engine e).isStopped then (s.startEngine e).ok []
    else s.refuse .busy
  | none => s.refuse .badValue

/-- LINE-STOP (R46): BAD-VALUE, NOT-RUNNING, ALREADY-STOPPING unless the mode is stronger than the pending one. -/
def State.doLineStop (s : State) (engine mode : Byte) : Handled :=
  match sideOf engine, stopModeOf mode with
  | some e, some m =>
    match (s.engine e).run with
    | .stopped => s.refuse .notRunning
    | .running => (s.setStopping e m).ok []
    | .stopping pending =>
      if pending.strength < m.strength then (s.setStopping e m).ok [] else s.refuse .alreadyStopping
  | _, _ => s.refuse .badValue

/-- Subject station and source code of an activity; 0xFF and 0 when there is no transaction (11.4). -/
def Activity.subject : Activity → List Byte
  | .inTransaction t => [byteOf t.subject.val, t.source.code]
  | .none => [0xFF, 0]
  | .waiting => [0xFF, 0]
  | .gap _ => [0xFF, 0]
  | .cycleWait => [0xFF, 0]

/-- The last-cycle summary's items (R60, R62). -/
def Summary.toBytes (m : Summary) : List Byte :=
  boolByte m.present :: (wordBytes m.cycle ++ m.bank.code :: m.tallies.toBytes)

/-- The items of LINE-STATUS (R62). -/
def EngineState.statusItems (en : EngineState) : List Byte :=
  [en.run.code, en.run.modeCode, en.activity.code, en.active.code, boolByte en.swapArmed] ++ wordBytes en.cycle ++
    stampBytes en.cycleStart ++ byteOf en.next :: (en.activity.subject ++
      [boolByte en.callPending, byteOf en.cursor.val, byteOf en.demands.length] ++ en.summary.toBytes)

/-- LINE-STATUS (R62). -/
def State.doLineStatus (s : State) (engine : Byte) : Handled :=
  match sideOf engine with
  | some e => s.ok (s.engine e).statusItems
  | none => s.refuse .badValue

end Sys2Proof.Machine
end

