-- ==== Sys2Proof/Machine/PairRequests.lean ====
section
/-!
DEFINITION. The pair requests (7.2).
-/

namespace Sys2Proof.Machine

/-- PAIR-SET (R116): BAD-VALUE, LINE-RUNNING while either engine is not STOPPED; the pair is initialised. -/
def State.doPairSet (s : State) (pair direction : Byte) : Handled :=
  match finOf 16 pair, directionOf direction with
  | some p, some d =>
    if s.engineA.isStopped = true ∧ s.engineB.isStopped = true then (s.setPair p (.init d)).ok []
    else s.refuse .lineRunning
  | _, _ => s.refuse .badValue

/-- PAIR-GET (R117). -/
def State.doPairGet (s : State) (pair : Byte) : Handled :=
  match finOf 16 pair with
  | some p =>
    let r := s.pair p
    s.ok ([r.direction.code, r.working.code, r.hostHalf.code, r.hostState.code] ++ wordBytes r.sequence ++
      boolByte r.miss :: (stampBytes r.flipStamp ++ stampBytes r.captureStamp))
  | none => s.refuse .badValue

/-- PAIR-READ (R118): a count of 1..120 words that lie inside the host half as it stands; behind a flip on COMMITTED that is the
half the flip handed over (log entry 23). -/
def State.doPairRead (s : State) (pair start count : Byte) : Handled :=
  match finOf 16 pair, finOf 128 start with
  | some p, some k =>
    if 1 ≤ count.toNat ∧ count.toNat ≤ 120 ∧ k.val + count.toNat ≤ 128 then
      let r := s.pair p
      s.ok ([r.hostHalf.code, r.hostState.code] ++ wordBytes r.sequence ++
        wordsBytes (readWords (r.half r.hostHalf) k.val count.toNat))
    else s.refuse .badValue
  | _, _ => s.refuse .badValue

/-- PAIR-WRITE (R119): BAD-VALUE, WRONG-DIRECTION, PAIR-COMMITTED; the words go into the host half, which stays EDITING. -/
def State.doPairWrite (s : State) (pair start : Byte) (words : List Word) : Handled :=
  match finOf 16 pair, finOf 128 start with
  | some p, some k =>
    let r := s.pair p
    if 128 < k.val + words.length then s.refuse .badValue
    else if r.direction = .capture then s.refuse .wrongDirection
    else if r.hostState = .committed then s.refuse .pairCommitted
    else (s.setPair p (r.setHalf r.hostHalf (writeWords (r.half r.hostHalf) k.val words))).ok []
  | _, _ => s.refuse .badValue

/-- PAIR-RELEASE (R120). -/
def State.doPairRelease (s : State) (pair : Byte) : Handled :=
  match finOf 16 pair with
  | some p =>
    if (s.pair p).direction = .output then s.refuse .wrongDirection
    else (s.setPair p { s.pair p with hostState := .released }).ok []
  | none => s.refuse .badValue

/-- PAIR-COMMIT (R121). -/
def State.doPairCommit (s : State) (pair : Byte) : Handled :=
  match finOf 16 pair with
  | some p =>
    if (s.pair p).direction = .capture then s.refuse .wrongDirection
    else (s.setPair p { s.pair p with hostState := .committed }).ok []
  | none => s.refuse .badValue

end Sys2Proof.Machine
end

