-- ==== Sys2Proof/Machine/PartRequests.lean ====
section
/-!
DEFINITION. The part-wide requests: IDENTIFY, GET-STATUS, RESTART, TIME-SET (chapter 9), PART-SET and PART-GET (chapter 5).
-/

namespace Sys2Proof.Machine

/-- IDENTIFY (R156): vendor code 0x2E, part code 264, revision 1, and the nine capacities in order. -/
def State.doIdentify (s : State) : Handled :=
  s.ok ([0x2E] ++ countBytes 264 ++ [1, 64, 2, 128, 32, 16, 128, 8, 32, 4])

/-- The items of GET-STATUS (R155). -/
def State.statusItems (s : State) : List Byte :=
  [s.arrangement.code, s.engineA.run.code, s.engineB.run.code, byteOf s.serviceLevel.val, byteOf s.stack.length,
    byteOf s.escalatedCount, boolByte s.overrun, s.imageState.code, s.startSource.code, s.store.code] ++ stampBytes s.time

/-- GET-STATUS (R155): the overrun flag is cleared in the event that reports it. -/
def State.doGetStatus (s : State) : Handled := ({ s with overrun := false } : State).ok s.statusItems

/-- RESTART (R158): "At dispatch it is answered OK and changes nothing further." The reset is taken when its reply has been
sent. -/
def State.doRestart (s : State) : Handled := s.ok []

/-- TIME-SET (R157): every value is in range. -/
def State.doTimeSet (s : State) (value : Stamp) : Handled := ({ s with time := value } : State).ok []

/-- Whether a mask set moves a record into ESCALATED (R86): PENDING, HOST mode, level eligible under the new M. -/
def State.maskEscalates (s : State) (i : Fin 64) : Bool :=
  decide ((s.attn i).state = .pending) && decide ((s.station i).config.mode = .host) && s.eligible (s.attn i).level

/-- A mask set at one record: an entry is handed over at once (R86, R90). -/
def State.maskRecord (s : State) (i : Fin 64) : State :=
  if s.maskEscalates i then (s.setAttn i { s.attn i with state := .escalated }).handOver i .mask else s

/-- The mask set: the records are examined in index order, 0 to 63 (R86). -/
def State.maskSet (s : State) : State := (List.finRange 64).foldl State.maskRecord s

/-- PART-SET (R85): M, D and the enables are written, and a change of M makes the mask set. -/
def State.doPartSet (s : State) (mask level enables : Byte) : Handled :=
  match finOf 8 mask, finOf 8 level with
  | some m, some d =>
    let s' : State := { s with mask := m, demandLevel := d, enables := .ofByte enables }
    (if m = s.mask then s' else s'.maskSet).ok []
  | _, _ => s.refuse .badValue

/-- The number of attention records in a state (R87). -/
def State.countState (s : State) (x : AttnState) : Nat := countStations fun i => decide ((s.attn i).state = x)

/-- PART-GET (R87): M, D, the enables, and the six counts in state-code order. -/
def State.doPartGet (s : State) : Handled :=
  s.ok [byteOf s.mask.val, byteOf s.demandLevel.val, s.enables.toByte, byteOf (s.countState .clear),
    byteOf (s.countState .pending), byteOf (s.countState .serving), byteOf (s.countState .escalated),
    byteOf (s.countState .held), byteOf (s.countState .acking)]

end Sys2Proof.Machine
end

