-- ==== Sys2Proof/Machine/PortRequests.lean ====
section
/-!
DEFINITION. PORT-SET and PORT-GET (1.2).
-/

namespace Sys2Proof.Machine

/-- PORT-SET (R2): BAD-VALUE, then LINE-RUNNING while the engine using the port is not STOPPED. Intervals in progress keep
their length (R1). -/
def State.doPortSet (s : State) (port : Byte) (settings : List Byte) : Handled :=
  match sideOf port, PortSettings.ofBytes settings with
  | some p, some c =>
    if (s.engine (portUser s.arrangement p)).isStopped then (s.withPort p fun x => { x with settings := c }).ok []
    else s.refuse .lineRunning
  | _, _ => s.refuse .badValue

/-- PORT-GET (R3). -/
def State.doPortGet (s : State) (port : Byte) : Handled :=
  match sideOf port with
  | some p =>
    s.ok ((s.port p).settings.toBytes ++
      [claimCode (some (portUser s.arrangement p)), (s.port p).phase.code, (s.port p).monitor.code])
  | none => s.refuse .badValue

end Sys2Proof.Machine
end

