-- ==== Sys2Proof/Machine/StationRequests.lean ====
section
/-!
DEFINITION. STATION-SET, STATION-GET and ARRANGE (chapter 2).
-/

namespace Sys2Proof.Machine

/-- Whether a station is in a transaction or its attention is being served (R22, step 2). -/
def State.stationBusy (s : State) (i : Fin 64) : Bool :=
  (s.station i).inTransaction.isSome ||
    decide ((s.attn i).state = .serving ∨ (s.attn i).state = .escalated ∨ (s.attn i).state = .held ∨
      (s.attn i).state = .acking)

/-- Whether new values would give two enabled stations of one scope one address (R22, step 3). A record is not compared with
its own earlier values (R21). -/
def State.duplicates (s : State) (i : Fin 64) (c : StationConfig) : Bool :=
  (List.finRange 64).any fun j => decide (j ≠ i) && clash s.arrangement c (s.station j).config

/-- A station record as an accepted STATION-SET writes it (R23, steps 1 and 2). -/
def Station.configured (st : Station) (c : StationConfig) : Station :=
  { st with config := c, health := .online, failCount := 0, line := c.home }

/-- The Arbiter's response to a new configuration (R91): a disabled station's record is CLEAR; a PENDING record is re-evaluated,
and an entry into ESCALATED is handed over at once (R90). -/
def State.reconfigure (s : State) (i : Fin 64) : State :=
  if (s.station i).config.enabled = false then s.setAttn i .none
  else if (s.attn i).state = .pending then
    let s' := s.reevaluate i
    if (s'.attn i).state = .escalated then s'.handOver i .stationSet else s'
  else s

/-- STATION-SET (R22, R23). -/
def State.doStationSet (s : State) (station : Byte) (record : List Byte) : Handled :=
  match finOf 64 station, StationConfig.ofBytes record with
  | some i, some c =>
    if s.stationBusy i then s.refuse .stationActive
    else if c.enabled = true ∧ s.duplicates i c = true then s.refuse .duplicateAddress
    else ((s.withStation i (Station.configured · c)).reconfigure i).ok []
  | _, _ => s.refuse .badValue

/-- The station state bytes of STATION-GET (11.3). -/
def State.stationState (s : State) (i : Fin 64) : List Byte :=
  let st := s.station i
  let r := s.attn i
  [st.health.code, byteOf st.failCount.val, sideCode st.line, st.last.toByte] ++ stampBytes st.lastContact ++
    [claimCode st.inTransaction, r.state.code, byteOf r.level.val, byteOf r.cls.val,
      claimCode (some (scopeOf s.arrangement st.config))]

/-- STATION-GET (R25). -/
def State.doStationGet (s : State) (station : Byte) : Handled :=
  match finOf 64 station with
  | some i => s.ok ((s.station i).config.toBytes ++ s.stationState i)
  | none => s.refuse .badValue

/-- A station record as an accepted ARRANGE leaves it (R35). -/
def Station.rearranged (st : Station) : Station :=
  { st with line := st.config.home, failCount := 0, health := .online }

/-- The effects of an accepted ARRANGE (R35): the stations are renewed, and a change of arrangement discards both demand
queues, Engine A's first. -/
def State.rearrange (s : State) (x : Arrangement) : State :=
  let s' : State := { s with arrangement := x, stations := s.stations.map Station.rearranged }
  if x = s.arrangement then s' else (s'.discardDemands .a).discardDemands .b

/-- ARRANGE (R34): BAD-VALUE, LINE-RUNNING, and DUPLICATE-ADDRESS for PAIRED. -/
def State.doArrange (s : State) (arrangement : Byte) : Handled :=
  match arrangementOf arrangement with
  | some x =>
    if s.engineA.isStopped = true ∧ s.engineB.isStopped = true then
      if x = .paired ∧ anyClash .paired (fun i => (s.station i).config) = true then s.refuse .duplicateAddress
      else (s.rearrange x).ok []
    else s.refuse .lineRunning
  | none => s.refuse .badValue

end Sys2Proof.Machine
end

