-- ==== Sys2Proof/Machine/StoreRequests.lean ====
section
/-!
DEFINITION. STORE-SAVE, STORE-ERASE and STORE-CANCEL, and the steps of a store operation they share with its events
(chapter 10).
-/

namespace Sys2Proof.Machine

/-- The staging snapshot of a save (R162): the live configuration, with the active bank of each engine and the autostart flags
of the request. -/
def State.snapshot (s : State) (autostartA autostartB : Bool) : Image :=
  { arrangement := s.arrangement, portA := s.portA.settings, portB := s.portB.settings
    mask := s.mask, demandLevel := s.demandLevel, enables := s.enables
    autostartA := autostartA, autostartB := autostartB
    headerA := s.engineA.activeBank.header, headerB := s.engineB.activeBank.header
    directions := s.pairs.map Pair.direction
    stations := s.stations.map Station.config
    slotsA := s.engineA.activeBank.slots, slotsB := s.engineB.activeBank.slots
    descriptors := s.descriptors }

/-- The erase of a block of the operation begins (R163). -/
def State.beginErase (s : State) (op : StoreOp) (block : Fin 4) : State :=
  { s with region := s.region.beginErase block, store := .erasing op block }

/-- An operation begins (R162, R164): the erase of block 0 begins, and the image state becomes INVALID (R161). -/
def State.beginStore (s : State) (op : StoreOp) : State := { s.beginErase op 0 with imageState := .invalid }

/-- A store operation ends (R163, R166): the snapshot goes with the controller's return to IDLE, the image state is set, and
STORE-RESULT is queued. -/
def State.endStore (s : State) (save : Bool) (outcome : StoreOutcome) (image : ImageState) : State :=
  ({ s with store := .idle, imageState := image } : State).raise (.storeResult save outcome image)

/-- Whether an operation is a save. -/
def StoreOp.isSave : StoreOp → Bool
  | .save _ => true
  | .erase => false

/-- Whether the operation in progress is a save. -/
def Store.isSave : Store → Bool
  | .idle => false
  | .erasing op _ => op.isSave
  | .programming _ _ _ _ => true
  | .marking _ _ _ => true

/-- The region that a cancel leaves (R165): the erase or program in progress is cut off, and its page or block stays without a
stated content. "On any other outcome the region holds no image" (chapter 10, Procedure: saving a
configuration, step 4): a marker page whose program had run to its end with its verify not yet taken is left as one cut off
(log entry 21). -/
def State.cancelledRegion (s : State) : Region :=
  match s.store with
  | .marking _ _ true => s.region.beginProgram 0
  | .marking _ _ false => s.region
  | .programming _ _ _ _ => s.region
  | .erasing _ _ => s.region
  | .idle => s.region

/-- The operation in progress is ended with outcome CANCELLED (R165). -/
def State.cancelStore (s : State) (byPin : Bool) : State :=
  ({ s with region := s.cancelledRegion } : State).endStore s.store.isSave (.cancelled s.store.code byPin) .invalid

/-- STORE-SAVE (R162): BAD-VALUE, PROTECTED, BUSY. -/
def State.doStoreSave (s : State) (autostartA autostartB : Byte) : Handled :=
  match boolOf autostartA, boolOf autostartB with
  | some a, some b =>
    if s.storeWp = .low then s.refuse .isProtected
    else if s.store = .idle then (s.beginStore (.save (s.snapshot a b))).accepted []
    else s.refuse .busy
  | _, _ => s.refuse .badValue

/-- STORE-ERASE (R164): PROTECTED, BUSY. -/
def State.doStoreErase (s : State) : Handled :=
  if s.storeWp = .low then s.refuse .isProtected
  else if s.store = .idle then (s.beginStore .erase).accepted []
  else s.refuse .busy

/-- STORE-CANCEL (R165): NOT-RUNNING while the controller is IDLE. -/
def State.doStoreCancel (s : State) : Handled :=
  if s.store = .idle then s.refuse .notRunning else (s.cancelStore false).ok []

end Sys2Proof.Machine
end

