-- ==== Sys2Proof/Machine/TimetableRequests.lean ====
section
/-!
DEFINITION. The six bank requests (3.2).
-/

namespace Sys2Proof.Machine

/-- Changes the shadow bank of an engine: "no host request writes a slot or header of an active bank" (R38). -/
def State.withShadow (s : State) (e : Engine) (f : Bank → Bank) : State :=
  s.withEngine e fun en => en.setBank en.active.other (f (en.bank en.active.other))

/-- SLOT-SET (R39). -/
def State.doSlotSet (s : State) (engine slot : Byte) (record : List Byte) : Handled :=
  match sideOf engine, finOf 128 slot, Slot.ofBytes record with
  | some e, some n, some sl => (s.withShadow e fun b => { b with slots := b.slots.set n sl }).ok []
  | _, _, _ => s.refuse .badValue

/-- SLOT-GET (R40). -/
def State.doSlotGet (s : State) (engine bank slot : Byte) : Handled :=
  match sideOf engine, bankOf bank, finOf 128 slot with
  | some e, some b, some n =>
    s.ok (boolByte (decide ((s.engine e).active = b)) :: ((s.engine e).bank b).slots[n].toBytes)
  | _, _, _ => s.refuse .badValue

/-- BANK-HEADER-SET (R41). -/
def State.doBankHeaderSet (s : State) (engine : Byte) (header : List Byte) : Handled :=
  match sideOf engine, BankHeader.ofBytes header with
  | some e, some h => (s.withShadow e fun b => { b with header := h }).ok []
  | _, _ => s.refuse .badValue

/-- BANK-HEADER-GET (R40). -/
def State.doBankHeaderGet (s : State) (engine bank : Byte) : Handled :=
  match sideOf engine, bankOf bank with
  | some e, some b =>
    s.ok (((s.engine e).bank b).header.toBytes ++
      [boolByte (decide ((s.engine e).active = b)), boolByte (s.engine e).swapArmed])
  | _, _ => s.refuse .badValue

/-- BANK-COPY (R42): the swap-armed flag is left as it was. -/
def State.doBankCopy (s : State) (engine : Byte) : Handled :=
  match sideOf engine with
  | some e => (s.withShadow e fun _ => (s.engine e).activeBank).ok []
  | none => s.refuse .badValue

/-- BANK-SWAP (R43): ARM sets the flag, DISARM clears it; an action byte other than 0 or 1 is out of range (R171). -/
def State.doBankSwap (s : State) (engine action : Byte) : Handled :=
  match sideOf engine, boolOf action with
  | some e, some arm => (s.withEngine e fun en => { en with swapArmed := arm }).ok []
  | _, _ => s.refuse .badValue

end Sys2Proof.Machine
end

