-- ==== Sys2Proof/Machine/Link.lean ====
section
/-!
DEFINITION. The Host Link Interface (chapter 9): the receiver, the request buffers, dispatch by KIND and LEN (11.4), and the
reply.
-/

namespace Sys2Proof.Machine

/-! ### Receiving (R147) -/

/-- A byte that meets a receiver that hunts: a clean sync begins a frame, and any other byte is ignored (R147). -/
def LinkRx.hunt (b : Byte) : LinkRx := if b = 0xC3 then .assembling [] else .hunting

/-- The receiver takes a byte; the second part is the frame's bytes after the sync, when this byte completes it. A byte whose
stop bit is low has a framing error: the receiver hunts, and takes no byte before HL_RXD has returned high (R145). -/
def LinkRx.takeByte (rx : LinkRx) (b : Byte) (stop : Level) (returned : Bool) : LinkRx × Option (List Byte) :=
  match rx with
  | .hunting => (if stop = .low then .waitHigh else .hunt b, none)
  | .waitHigh => (if returned = false ∨ stop = .low then .waitHigh else .hunt b, none)
  | .assembling bytes =>
    if stop = .low then (.waitHigh, none)
    else
      let all := bytes ++ [b]
      if Config.maxPayload < (all.headD 0).toNat then (.hunting, none)
      else if all.length = (all.headD 0).toNat + 5 then (.hunting, some all)
      else (.assembling all, none)

/-- The frame that the bytes after a sync hold when their check is good (R146); none for a bad check. -/
def Frame.ofBytes : List Byte → Option Frame
  | len :: kind :: tag :: rest =>
    let f : Frame := ⟨kind, tag, rest.take len.toNat⟩
    if rest.drop len.toNat = wordBytes (frameCheck f.covered) then some f else none
  | _ => none

/-- Clean bytes arrive, on a line that has returned high, the last of which completes a frame: the frame's bytes after the sync.
None when no byte, or one before the last, completes a frame. -/
def LinkRx.completes : LinkRx → List Byte → Option (List Byte)
  | _, [] => none
  | rx, [b] => (rx.takeByte b .high true).2
  | rx, b :: rest =>
    match rx.takeByte b .high true with
    | (rx', none) => LinkRx.completes rx' rest
    | (_, some _) => none

/-! ### Dispatch (R149) -/

/-- A payload that is a record index and start with a run of words of PAIR-WRITE: LEN 4..242, a whole number of words
(R119). -/
def State.handlePairWrite (s : State) (pair start : Byte) (rest : List Byte) : Handled :=
  match wordsOf rest with
  | some ws => if 1 ≤ ws.length ∧ ws.length ≤ 120 then s.doPairWrite pair start ws else s.refuse .badLength
  | none => s.refuse .badLength

/-- A payload of DEMAND with its run of words: LEN 6..38, a whole number of words (R75, 11.4). -/
def State.handleDemand (s : State) (tag engine station kind p1 p0 count : Byte) (rest : List Byte) : Handled :=
  match wordsOf rest with
  | some ws =>
    if ws.length ≤ 16 then s.doDemand tag engine station kind (wordOf p1 p0) count ws else s.refuse .badLength
  | none => s.refuse .badLength

/-- A request is handed to its owner by KIND, with the LEN its kind allows (R149, 11.4): a KIND that names no request is
answered BAD-KIND, a LEN that is not allowed BAD-LENGTH. -/
def State.handle (s : State) (f : Frame) : Handled :=
  match f.kind.toNat with
  | 0x01 => match f.payload with
    | [] => s.doIdentify
    | _ => s.refuse .badLength
  | 0x02 => match f.payload with
    | [] => s.doGetStatus
    | _ => s.refuse .badLength
  | 0x03 => match f.payload with
    | [] => s.doRestart
    | _ => s.refuse .badLength
  | 0x04 => match f.payload with
    | [b3, b2, b1, b0] => s.doTimeSet (stampOf b3 b2 b1 b0)
    | _ => s.refuse .badLength
  | 0x05 => match f.payload with
    | [m, d, n] => s.doPartSet m d n
    | _ => s.refuse .badLength
  | 0x06 => match f.payload with
    | [] => s.doPartGet
    | _ => s.refuse .badLength
  | 0x07 => match f.payload with
    | [x] => s.doArrange x
    | _ => s.refuse .badLength
  | 0x08 => match f.payload with
    | [p, a, b, c, d, e] => s.doPortSet p [a, b, c, d, e]
    | _ => s.refuse .badLength
  | 0x09 => match f.payload with
    | [p] => s.doPortGet p
    | _ => s.refuse .badLength
  | 0x0A => match f.payload with
    | [e] => s.doLineStart e
    | _ => s.refuse .badLength
  | 0x0B => match f.payload with
    | [e, m] => s.doLineStop e m
    | _ => s.refuse .badLength
  | 0x0C => match f.payload with
    | [e] => s.doLineStatus e
    | _ => s.refuse .badLength
  | 0x0D => match f.payload with
    | [i, a, b, c, d, e, g, h, k] => s.doStationSet i [a, b, c, d, e, g, h, k]
    | _ => s.refuse .badLength
  | 0x0E => match f.payload with
    | [i] => s.doStationGet i
    | _ => s.refuse .badLength
  | 0x0F => match f.payload with
    | e :: n :: record => if record.length = 16 then s.doSlotSet e n record else s.refuse .badLength
    | _ => s.refuse .badLength
  | 0x10 => match f.payload with
    | [e, b, n] => s.doSlotGet e b n
    | _ => s.refuse .badLength
  | 0x11 => match f.payload with
    | [e, p1, p0, n, k1, k0] => s.doBankHeaderSet e [p1, p0, n, k1, k0]
    | _ => s.refuse .badLength
  | 0x12 => match f.payload with
    | [e, b] => s.doBankHeaderGet e b
    | _ => s.refuse .badLength
  | 0x13 => match f.payload with
    | [e] => s.doBankCopy e
    | _ => s.refuse .badLength
  | 0x14 => match f.payload with
    | [e, x] => s.doBankSwap e x
    | _ => s.refuse .badLength
  | 0x15 => match f.payload with
    | d :: record => if record.length = 16 then s.doDescriptorSet d record else s.refuse .badLength
    | _ => s.refuse .badLength
  | 0x16 => match f.payload with
    | [d] => s.doDescriptorGet d
    | _ => s.refuse .badLength
  | 0x17 => match f.payload with
    | [p, d] => s.doPairSet p d
    | _ => s.refuse .badLength
  | 0x18 => match f.payload with
    | [p] => s.doPairGet p
    | _ => s.refuse .badLength
  | 0x19 => match f.payload with
    | [p, k, n] => s.doPairRead p k n
    | _ => s.refuse .badLength
  | 0x1A => match f.payload with
    | p :: k :: rest => s.handlePairWrite p k rest
    | _ => s.refuse .badLength
  | 0x1B => match f.payload with
    | [p] => s.doPairRelease p
    | _ => s.refuse .badLength
  | 0x1C => match f.payload with
    | [p] => s.doPairCommit p
    | _ => s.refuse .badLength
  | 0x1D => match f.payload with
    | e :: i :: k :: p1 :: p0 :: n :: rest => s.handleDemand f.tag e i k p1 p0 n rest
    | _ => s.refuse .badLength
  | 0x1E => match f.payload with
    | [] => s.doTake
    | _ => s.refuse .badLength
  | 0x1F => match f.payload with
    | [] => s.doDone
    | _ => s.refuse .badLength
  | 0x20 => match f.payload with
    | [a, b] => s.doStoreSave a b
    | _ => s.refuse .badLength
  | 0x21 => match f.payload with
    | [] => s.doStoreErase
    | _ => s.refuse .badLength
  | 0x22 => match f.payload with
    | [] => s.doStoreCancel
    | _ => s.refuse .badLength
  | _ => s.refuse .badKind

/-- The KIND of a request's reply (R150): the request's KIND plus 0x80, or 0xFF when the KIND is 0x80 or above. -/
def replyKind (kind : Byte) : Byte := if kind.toNat < 0x80 then kind + 0x80 else 0xFF

/-- The reply frame of a request (R150): a result other than OK and ACCEPTED carries the result code alone. -/
def Frame.answer (f : Frame) (r : Reply) : Frame := ⟨replyKind f.kind, f.tag, r.result.code :: r.items⟩

/-- While a request is dispatched, a free transmitter waits for its reply: notices that the dispatch raises are "sent after the
reply" (R151). The frame put here stands for that reply and is never sent. -/
def State.reserveTx (s : State) (f : Frame) : State :=
  { s with tx := match s.tx with
      | none => some ⟨.reply f, 0⟩
      | some x => some x }

/-- The reply is placed in the slot, and a transmitter that was free when the dispatch began chooses it (R149 to R151). -/
def State.placeReply (s : State) (f : Frame) (r : Reply) (tx : Option Transmission) : State :=
  ({ s with processing := some f, replySlot := some (f.answer r), tx := tx } : State).transmit

/-- A request enters processing and is dispatched as one event (R149). -/
def State.dispatch (s : State) (f : Frame) : State :=
  let h := (s.reserveTx f).handle f
  h.state.placeReply f h.reply s.tx

/-- A complete frame with a good check is placed by the buffers' state (R148). A held frame with nothing in processing does not
come about; the frame is then dispatched. -/
def State.acceptFrame (s : State) (f : Frame) : State :=
  match s.processing, s.held with
  | none, _ => s.dispatch f
  | some _, none => { s with held := some f }
  | some _, some _ => s

/-- A request's frame arrives on the link, complete and with a good check (log entry 1): the receiver is HUNTING behind it. A
payload longer than a frame can carry is discarded at its LEN byte (R147). -/
def State.receiveFrame (s : State) (f : Frame) : State :=
  if f.payload.length ≤ Config.maxPayload then ({ s with rx := .hunting } : State).acceptFrame f
  else { s with rx := .hunting }

/-- A frame completes: one whose check is not good is discarded (R147). -/
def State.frameComplete (s : State) (bytes : List Byte) : State :=
  match Frame.ofBytes bytes with
  | some f => s.acceptFrame f
  | none => s

/-- A byte arrives on HL_RXD (R147). -/
def State.hostByte (s : State) (b : Byte) (stop : Level) (returned : Bool) : State :=
  match s.rx.takeByte b stop returned with
  | (rx, none) => { s with rx := rx }
  | (rx, some bytes) => ({ s with rx := rx } : State).frameComplete bytes

/-- Whether a request in processing is a RESTART that was answered OK (R158). -/
def Frame.isRestart (f : Frame) : Bool := decide (f.kind = 0x03) && f.payload.isEmpty

/-- The end of a reply (R148): the processing buffer is emptied; a held frame is dispatched and its reply placed; the
transmitter chooses. After RESTART's reply the reset is taken in place of this event (R158). -/
def State.replyEnds (s : State) : State :=
  let s1 : State := { s with processing := none, tx := none }
  if s.processing.any Frame.isRestart then s1.fullReset .restart
  else
    match s1.held with
    | some f => ({ s1 with held := none } : State).dispatch f
    | none => s1.transmit

end Sys2Proof.Machine
end

