-- ==== Sys2Proof/Machine/LinkEvents.lean ====
section
/-!
DEFINITION. The meanings of the host-link events (R147, R148, R151). An event that the state excludes changes nothing (log
entry 3).
-/

namespace Sys2Proof.Machine

/-- REQUEST_FRAME_COMPLETE (R147, R148): clean bytes arrive, and the last of them completes a frame. Bytes that do not complete
one with their last are no such event. -/
def execRequestFrameComplete (rest : List Byte) (s : State) : Host.Outcome State Fault Refusal :=
  match s.rx.completes rest with
  | some bytes => .next (({ s with rx := .hunting } : State).frameComplete bytes)
  | none => .next s

/-- HOST_GAP_TIMER_EXPIRY (R147): the partial frame is discarded; the timer runs in ASSEMBLING alone. -/
def execHostGapTimerExpiry (s : State) : Host.Outcome State Fault Refusal :=
  match s.rx with
  | .assembling _ => .next { s with rx := .hunting }
  | .hunting => .next s
  | .waitHigh => .next s

/-- REPLY_SENT (R148, R158): the last byte of the reply being sent has been sent. -/
def execReplySent (s : State) : Host.Outcome State Fault Refusal :=
  match s.tx with
  | some ⟨.reply _, _⟩ => .next s.replyEnds
  | some ⟨.notice _, _⟩ => .next s
  | none => .next s

/-- NOTICE_SENT (R151): the last byte of the notice being sent has been sent, and the transmitter chooses its next frame. -/
def execNoticeSent (s : State) : Host.Outcome State Fault Refusal :=
  match s.tx with
  | some ⟨.notice _, _⟩ => .next ({ s with tx := none } : State).transmit
  | some ⟨.reply _, _⟩ => .next s
  | none => .next s

/-- HOST_BYTE_RECEIVED (R145, R147). -/
def execHostByteReceived (value : Byte) (sample : ByteSample) (s : State) : Host.Outcome State Fault Refusal :=
  .next (s.hostByte value sample.stop sample.returned)

end Sys2Proof.Machine
end

