-- ==== Sys2Proof/Machine/Requests.lean ====
section
/-!
DEFINITION. The meanings of the thirty-four request commands: each is the arrival of that request's frame, complete and with a
good check (log entry 1). KIND and payload are those of 11.4; what the request does is in the file of its block, through
`State.handle`.
-/

namespace Sys2Proof.Machine

/-- IDENTIFY (R156). -/
def execIdentify (tag : Byte) (s : State) : Host.Outcome State Fault Refusal := .next (s.receiveFrame ⟨0x01, tag, []⟩)

/-- GET-STATUS (R155). -/
def execGetStatus (tag : Byte) (s : State) : Host.Outcome State Fault Refusal := .next (s.receiveFrame ⟨0x02, tag, []⟩)

/-- RESTART (R158). -/
def execRestart (tag : Byte) (s : State) : Host.Outcome State Fault Refusal := .next (s.receiveFrame ⟨0x03, tag, []⟩)

/-- TIME-SET (R157). -/
def execTimeSet (tag : Byte) (value : Stamp) (s : State) : Host.Outcome State Fault Refusal :=
  .next (s.receiveFrame ⟨0x04, tag, stampBytes value⟩)

/-- PART-SET (R85). -/
def execPartSet (tag mask level enables : Byte) (s : State) : Host.Outcome State Fault Refusal :=
  .next (s.receiveFrame ⟨0x05, tag, [mask, level, enables]⟩)

/-- PART-GET (R87). -/
def execPartGet (tag : Byte) (s : State) : Host.Outcome State Fault Refusal := .next (s.receiveFrame ⟨0x06, tag, []⟩)

/-- ARRANGE (R34). -/
def execArrange (tag arrangement : Byte) (s : State) : Host.Outcome State Fault Refusal :=
  .next (s.receiveFrame ⟨0x07, tag, [arrangement]⟩)

/-- PORT-SET (R2). -/
def execPortSet (tag port rate parity stopBits timeout gap : Byte) (s : State) : Host.Outcome State Fault Refusal :=
  .next (s.receiveFrame ⟨0x08, tag, [port, rate, parity, stopBits, timeout, gap]⟩)

/-- PORT-GET (R3). -/
def execPortGet (tag port : Byte) (s : State) : Host.Outcome State Fault Refusal :=
  .next (s.receiveFrame ⟨0x09, tag, [port]⟩)

/-- LINE-START (R45). -/
def execLineStart (tag engine : Byte) (s : State) : Host.Outcome State Fault Refusal :=
  .next (s.receiveFrame ⟨0x0A, tag, [engine]⟩)

/-- LINE-STOP (R46). -/
def execLineStop (tag engine mode : Byte) (s : State) : Host.Outcome State Fault Refusal :=
  .next (s.receiveFrame ⟨0x0B, tag, [engine, mode]⟩)

/-- LINE-STATUS (R62). -/
def execLineStatus (tag engine : Byte) (s : State) : Host.Outcome State Fault Refusal :=
  .next (s.receiveFrame ⟨0x0C, tag, [engine]⟩)

/-- STATION-SET (R22); the record's unused bytes are sent as 0. -/
def execStationSet (tag station flags address level descriptor retries : Byte) (s : State) :
    Host.Outcome State Fault Refusal :=
  .next (s.receiveFrame ⟨0x0D, tag, [station, flags, address, level, descriptor, retries, 0, 0, 0]⟩)

/-- STATION-GET (R25). -/
def execStationGet (tag station : Byte) (s : State) : Host.Outcome State Fault Refusal :=
  .next (s.receiveFrame ⟨0x0E, tag, [station]⟩)

/-- SLOT-SET (R39); the record's unused bytes are sent as 0. -/
def execSlotSet (tag engine slot kind : Byte) (offset : Word) (divisor phase station request : Byte) (point : Word)
    (count pair wordOffset flipAfter : Byte) (s : State) : Host.Outcome State Fault Refusal :=
  .next (s.receiveFrame ⟨0x0F, tag, [engine, slot, kind] ++ wordBytes offset ++ [divisor, phase, station, request] ++
    wordBytes point ++ [count, pair, wordOffset, flipAfter, 0, 0, 0]⟩)

/-- SLOT-GET (R40). -/
def execSlotGet (tag engine bank slot : Byte) (s : State) : Host.Outcome State Fault Refusal :=
  .next (s.receiveFrame ⟨0x10, tag, [engine, bank, slot]⟩)

/-- BANK-HEADER-SET (R41). -/
def execBankHeaderSet (tag engine : Byte) (period : Word) (slotCount : Byte) (slack : Word) (s : State) :
    Host.Outcome State Fault Refusal :=
  .next (s.receiveFrame ⟨0x11, tag, [engine] ++ wordBytes period ++ [slotCount] ++ wordBytes slack⟩)

/-- BANK-HEADER-GET (R40). -/
def execBankHeaderGet (tag engine bank : Byte) (s : State) : Host.Outcome State Fault Refusal :=
  .next (s.receiveFrame ⟨0x12, tag, [engine, bank]⟩)

/-- BANK-COPY (R42). -/
def execBankCopy (tag engine : Byte) (s : State) : Host.Outcome State Fault Refusal :=
  .next (s.receiveFrame ⟨0x13, tag, [engine]⟩)

/-- BANK-SWAP (R43). -/
def execBankSwap (tag engine action : Byte) (s : State) : Host.Outcome State Fault Refusal :=
  .next (s.receiveFrame ⟨0x14, tag, [engine, action]⟩)

/-- DESCRIPTOR-SET (R104); the record's unused bytes are sent as 0. -/
def execDescriptorSet (tag descriptor kind : Byte) (point : Word) (perTransfer remaining pair wordOffset flags : Byte)
    (s : State) : Host.Outcome State Fault Refusal :=
  .next (s.receiveFrame ⟨0x15, tag, [descriptor, kind] ++ wordBytes point ++
    [perTransfer, remaining, pair, wordOffset, flags, 0, 0, 0, 0, 0, 0, 0, 0]⟩)

/-- DESCRIPTOR-GET (R106). -/
def execDescriptorGet (tag descriptor : Byte) (s : State) : Host.Outcome State Fault Refusal :=
  .next (s.receiveFrame ⟨0x16, tag, [descriptor]⟩)

/-- PAIR-SET (R116). -/
def execPairSet (tag pair direction : Byte) (s : State) : Host.Outcome State Fault Refusal :=
  .next (s.receiveFrame ⟨0x17, tag, [pair, direction]⟩)

/-- PAIR-GET (R117). -/
def execPairGet (tag pair : Byte) (s : State) : Host.Outcome State Fault Refusal :=
  .next (s.receiveFrame ⟨0x18, tag, [pair]⟩)

/-- PAIR-READ (R118). -/
def execPairRead (tag pair start count : Byte) (s : State) : Host.Outcome State Fault Refusal :=
  .next (s.receiveFrame ⟨0x19, tag, [pair, start, count]⟩)

/-- PAIR-WRITE (R119). -/
def execPairWrite (tag pair start : Byte) (words : List Word) (s : State) : Host.Outcome State Fault Refusal :=
  .next (s.receiveFrame ⟨0x1A, tag, [pair, start] ++ wordsBytes words⟩)

/-- PAIR-RELEASE (R120). -/
def execPairRelease (tag pair : Byte) (s : State) : Host.Outcome State Fault Refusal :=
  .next (s.receiveFrame ⟨0x1B, tag, [pair]⟩)

/-- PAIR-COMMIT (R121). -/
def execPairCommit (tag pair : Byte) (s : State) : Host.Outcome State Fault Refusal :=
  .next (s.receiveFrame ⟨0x1C, tag, [pair]⟩)

/-- DEMAND (R75). -/
def execDemand (tag engine station kind : Byte) (point : Word) (count : Byte) (words : List Word) (s : State) :
    Host.Outcome State Fault Refusal :=
  .next (s.receiveFrame ⟨0x1D, tag, [engine, station, kind] ++ wordBytes point ++ [count] ++ wordsBytes words⟩)

/-- TAKE (R136). -/
def execTake (tag : Byte) (s : State) : Host.Outcome State Fault Refusal := .next (s.receiveFrame ⟨0x1E, tag, []⟩)

/-- DONE (R139). -/
def execDone (tag : Byte) (s : State) : Host.Outcome State Fault Refusal := .next (s.receiveFrame ⟨0x1F, tag, []⟩)

/-- STORE-SAVE (R162). -/
def execStoreSave (tag autostartA autostartB : Byte) (s : State) : Host.Outcome State Fault Refusal :=
  .next (s.receiveFrame ⟨0x20, tag, [autostartA, autostartB]⟩)

/-- STORE-ERASE (R164). -/
def execStoreErase (tag : Byte) (s : State) : Host.Outcome State Fault Refusal :=
  .next (s.receiveFrame ⟨0x21, tag, []⟩)

/-- STORE-CANCEL (R165). -/
def execStoreCancel (tag : Byte) (s : State) : Host.Outcome State Fault Refusal :=
  .next (s.receiveFrame ⟨0x22, tag, []⟩)

end Sys2Proof.Machine
end

