-- ==== Sys2Proof/Machine/ResetEvents.lean ====
section
/-!
DEFINITION. The meanings of POWER_ON and RESET_PIN (R159, R168): every block takes its reset values, the straps are sampled at
the levels the command gives, and start-up follows.
-/

namespace Sys2Proof.Machine

/-- POWER_ON. -/
def execPowerOn (lr1 lr0 : Level) (s : State) : Host.Outcome State Fault Refusal :=
  .next (({ s with lr1 := lr1, lr0 := lr0 } : State).fullReset .powerOn)

/-- RESET_PIN. -/
def execResetPin (lr1 lr0 : Level) (s : State) : Host.Outcome State Fault Refusal :=
  .next (({ s with lr1 := lr1, lr0 := lr0 } : State).fullReset .resetPin)

end Sys2Proof.Machine
end

