-- ==== Sys2Proof/Machine/StoreEvents.lean ====
section
/-!
DEFINITION. The meanings of the store events (R163 to R165). An event that the controller's step excludes changes nothing (log
entry 3).
-/

namespace Sys2Proof.Machine

/-- The program of an image page begins (R163, step 2). -/
def State.beginPage (s : State) (m : Image) (page : Nat) (again : Bool) : State :=
  { s with region := s.region.beginProgram page, store := .programming m page again false }

/-- The program of the marker page begins (R163, step 3). -/
def State.beginMark (s : State) (m : Image) (again : Bool) : State :=
  { s with region := s.region.beginProgram 0, store := .marking m again false }

/-- The erase of the operation's last block has ended (R163, R164): a save programs page 1, an erase ends ERASED. -/
def State.eraseDone (s : State) (op : StoreOp) : State :=
  match op with
  | .save m => s.beginPage m 1 false
  | .erase => s.endStore false .erased .invalid

/-- STORE_WP_ASSERTED (R165): the board's pins take levels. STORE_WP going low while the controller is not IDLE cancels the
operation, and its return high has no effect (log entry 9); LR1 and LR0 act on nothing before the next reset (R145, log entry
6). -/
def execStoreWpAsserted (pins : BoardPins) (s : State) : Host.Outcome State Fault Refusal :=
  let s' : State := { s with storeWp := pins.storeWp, lr1 := pins.lr1, lr0 := pins.lr0 }
  if pins.storeWp = .low ∧ s.storeWp = .high ∧ s.store ≠ .idle then .next (s'.cancelStore true) else .next s'

/-- BLOCK_ERASE_COMPLETE (R163, R164): a block that read back with every byte 0xFF is erased and the next erase begins, or the
operation goes on; any other byte ends it ERASE-FAILED. -/
def execBlockEraseComplete (erased : Bool) (s : State) : Host.Outcome State Fault Refusal :=
  match s.store with
  | .erasing op block =>
    if erased then
      let s' : State := { s with region := s.region.setErased block }
      if block = 3 then .next (s'.eraseDone op) else .next (s'.beginErase op (block + 1))
    else .next (s.endStore op.isSave (.eraseFailed block) .invalid)
  | .idle => .next s
  | .programming _ _ _ _ => .next s
  | .marking _ _ _ => .next s

/-- ERASE_TIMEOUT (R163): an erase that has not completed within 60 ms ends the operation ERASE-FAILED. -/
def execEraseTimeout (s : State) : Host.Outcome State Fault Refusal :=
  match s.store with
  | .erasing op block => .next (s.endStore op.isSave (.eraseFailed block) .invalid)
  | .idle => .next s
  | .programming _ _ _ _ => .next s
  | .marking _ _ _ => .next s

/-- A page program that failed (R163): the page is programmed once more, or the operation ends PROGRAM-FAILED. The page has no
stated content. -/
def State.programFails (s : State) : State :=
  match s.store with
  | .programming m page again _ =>
    if again then
      ({ s with region := s.region.beginProgram page } : State).endStore true (.programFailed page) .invalid
    else s.beginPage m page true
  | .marking m again _ =>
    if again then ({ s with region := s.region.beginProgram 0 } : State).endStore true (.programFailed 0) .invalid
    else s.beginMark m true
  | .idle => s
  | .erasing _ _ => s

/-- A page program that verified (R163): the next page begins, page 21 is followed by the marker, and the marker page ends the
save with the image VALID. -/
def State.programVerifies (s : State) : State :=
  match s.store with
  | .programming m page _ _ =>
    let s' : State := { s with region := s.region.programmed page (m.pageBytes page) }
    if page < 21 then s'.beginPage m (page + 1) false else s'.beginMark m false
  | .marking m _ _ =>
    ({ s with region := s.region.programmed 0 (m.pageBytes 0) } : State).endStore true .saved .valid
  | .idle => s
  | .erasing _ _ => s

/-- A page program that has run to its end with its verify not yet taken (R167): the page holds its bytes. -/
def State.programEnds (s : State) : State :=
  match s.store with
  | .programming m page again _ =>
    { s with region := s.region.programmed page (m.pageBytes page), store := .programming m page again true }
  | .marking m again _ =>
    { s with region := s.region.programmed 0 (m.pageBytes 0), store := .marking m again true }
  | .idle => s
  | .erasing _ _ => s

/-- PAGE_PROGRAM_COMPLETE (R163). -/
def execPageProgramComplete (how : ProgramEnd) (s : State) : Host.Outcome State Fault Refusal :=
  match how with
  | .verified => .next s.programVerifies
  | .differs => .next s.programFails
  | .unverified => .next s.programEnds

/-- Whether the store's page program has run to its end, its verify alone not yet taken. -/
def Store.programComplete : Store → Bool
  | .programming _ _ _ complete => complete
  | .marking _ _ complete => complete
  | .idle => false
  | .erasing _ _ => false

/-- PROGRAM_TIMEOUT (R163): a page that has not completed within 4 ms failed. -/
def execProgramTimeout (s : State) : Host.Outcome State Fault Refusal :=
  if s.store.programComplete then .next s else .next s.programFails

end Sys2Proof.Machine
end

