-- ==== Sys2Proof/Machine/Dispatch.lean ====
section
/-!
DEFINITION. One arm per command: its meaning.
-/

namespace Sys2Proof.Machine

/-- The effect of a command on everything but the queue of waiting commands. -/
def exec (i : Instr) (s : State) : Host.Outcome State Fault Refusal :=
  match i with
  | .identify tag => Sys2Proof.Machine.execIdentify tag s
  | .getStatus tag => Sys2Proof.Machine.execGetStatus tag s
  | .restart tag => Sys2Proof.Machine.execRestart tag s
  | .timeSet tag value => Sys2Proof.Machine.execTimeSet tag value s
  | .partSet tag mask level enables => Sys2Proof.Machine.execPartSet tag mask level enables s
  | .partGet tag => Sys2Proof.Machine.execPartGet tag s
  | .arrange tag arrangement => Sys2Proof.Machine.execArrange tag arrangement s
  | .portSet tag port rate parity stopBits timeout gap => Sys2Proof.Machine.execPortSet tag port rate parity stopBits timeout gap s
  | .portGet tag port => Sys2Proof.Machine.execPortGet tag port s
  | .lineStart tag engine => Sys2Proof.Machine.execLineStart tag engine s
  | .lineStop tag engine mode => Sys2Proof.Machine.execLineStop tag engine mode s
  | .lineStatus tag engine => Sys2Proof.Machine.execLineStatus tag engine s
  | .stationSet tag station flags address level descriptor retries => Sys2Proof.Machine.execStationSet tag station flags address level descriptor retries s
  | .stationGet tag station => Sys2Proof.Machine.execStationGet tag station s
  | .slotSet tag engine slot kind offset divisor phase station request point count pair wordOffset flipAfter => Sys2Proof.Machine.execSlotSet tag engine slot kind offset divisor phase station request point count pair wordOffset flipAfter s
  | .slotGet tag engine bank slot => Sys2Proof.Machine.execSlotGet tag engine bank slot s
  | .bankHeaderSet tag engine period slotCount slack => Sys2Proof.Machine.execBankHeaderSet tag engine period slotCount slack s
  | .bankHeaderGet tag engine bank => Sys2Proof.Machine.execBankHeaderGet tag engine bank s
  | .bankCopy tag engine => Sys2Proof.Machine.execBankCopy tag engine s
  | .bankSwap tag engine action => Sys2Proof.Machine.execBankSwap tag engine action s
  | .descriptorSet tag descriptor kind point perTransfer remaining pair wordOffset flags => Sys2Proof.Machine.execDescriptorSet tag descriptor kind point perTransfer remaining pair wordOffset flags s
  | .descriptorGet tag descriptor => Sys2Proof.Machine.execDescriptorGet tag descriptor s
  | .pairSet tag pair direction => Sys2Proof.Machine.execPairSet tag pair direction s
  | .pairGet tag pair => Sys2Proof.Machine.execPairGet tag pair s
  | .pairRead tag pair start count => Sys2Proof.Machine.execPairRead tag pair start count s
  | .pairWrite tag pair start words => Sys2Proof.Machine.execPairWrite tag pair start words s
  | .pairRelease tag pair => Sys2Proof.Machine.execPairRelease tag pair s
  | .pairCommit tag pair => Sys2Proof.Machine.execPairCommit tag pair s
  | .demand tag engine station kind point count words => Sys2Proof.Machine.execDemand tag engine station kind point count words s
  | .take tag => Sys2Proof.Machine.execTake tag s
  | .done tag => Sys2Proof.Machine.execDone tag s
  | .storeSave tag autostartA autostartB => Sys2Proof.Machine.execStoreSave tag autostartA autostartB s
  | .storeErase tag => Sys2Proof.Machine.execStoreErase tag s
  | .storeCancel tag => Sys2Proof.Machine.execStoreCancel tag s
  | .requestFrameComplete rest => Sys2Proof.Machine.execRequestFrameComplete rest s
  | .hostGapTimerExpiry => Sys2Proof.Machine.execHostGapTimerExpiry s
  | .replySent => Sys2Proof.Machine.execReplySent s
  | .noticeSent => Sys2Proof.Machine.execNoticeSent s
  | .powerOn lr1 lr0 => Sys2Proof.Machine.execPowerOn lr1 lr0 s
  | .resetPin lr1 lr0 => Sys2Proof.Machine.execResetPin lr1 lr0 s
  | .storeWpAsserted pins => Sys2Proof.Machine.execStoreWpAsserted pins s
  | .blockEraseComplete erased => Sys2Proof.Machine.execBlockEraseComplete erased s
  | .eraseTimeout => Sys2Proof.Machine.execEraseTimeout s
  | .pageProgramComplete how => Sys2Proof.Machine.execPageProgramComplete how s
  | .programTimeout => Sys2Proof.Machine.execProgramTimeout s
  | .periodExpiry engine => Sys2Proof.Machine.execPeriodExpiry engine s
  | .slotStartTime engine => Sys2Proof.Machine.execSlotStartTime engine s
  | .requestFrameSent port => Sys2Proof.Machine.execRequestFrameSent port s
  | .replyTimeout port => Sys2Proof.Machine.execReplyTimeout port s
  | .replyFrameComplete port rest => Sys2Proof.Machine.execReplyFrameComplete port rest s
  | .replyGapExpiry port => Sys2Proof.Machine.execReplyGapExpiry port s
  | .discardLimitReached last => Sys2Proof.Machine.execDiscardLimitReached last s
  | .abortedCharacterEnd port => Sys2Proof.Machine.execAbortedCharacterEnd port s
  | .turnaroundGapExpiry port => Sys2Proof.Machine.execTurnaroundGapExpiry port s
  | .lineLow port => Sys2Proof.Machine.execLineLow port s
  | .lineHigh port => Sys2Proof.Machine.execLineHigh port s
  | .lineMonitorTimerExpiry port => Sys2Proof.Machine.execLineMonitorTimerExpiry port s
  | .fieldCharacterReceived port value sample => Sys2Proof.Machine.execFieldCharacterReceived port value sample s
  | .hostByteReceived value sample => Sys2Proof.Machine.execHostByteReceived value sample s

end Sys2Proof.Machine
end

