-- ==== Sys2Proof/Safety.lean ====
section
/-!
DEFINITION. What the CV264 must keep at the end of every event: the laws of the device that the chapters number, as
predicates on State, with the facts about transactions in flight that they rest on; the frame that each request command
sends; and the words in which a request's reply is stated.
-/

namespace Sys2Proof.Machine

/-! ### The laws of the device -/

/-- Third law (R28): health and fail count agree. -/
def State.HealthAgrees (s : State) : Prop := ∀ i : Fin 64, (s.station i).health = healthOf (s.station i).failCount

/-- Fourth law (R92): a disabled station is CLEAR, and an OFFLINE one is CLEAR or HELD. -/
def State.IdleUnlessServable (s : State) : Prop :=
  ∀ i : Fin 64, ((s.station i).config.enabled = false → (s.attn i).state = .clear) ∧
    ((s.station i).health = .offline → (s.attn i).state = .clear ∨ (s.attn i).state = .held)

/-- Fifth law (R134): at most 4 entries, HELD exactly the stations on the stack, none twice, levels rising strictly from bottom
to top (the newest entry is first). -/
def State.StackSound (s : State) : Prop :=
  s.stack.length ≤ Config.stackEntries ∧
  (∀ i : Fin 64, (s.attn i).state = .held ↔ i ∈ s.stack.map StackEntry.station) ∧
  (s.stack.map StackEntry.station).Nodup ∧
  (s.stack.map StackEntry.level).Pairwise (· > ·)

/-- Seventh law (R74, R153): the queues hold no more than their capacities. -/
def State.QueuesBounded (s : State) : Prop :=
  s.notices.length ≤ Config.noticeEntries ∧ s.engineA.demands.length ≤ Config.demandEntries ∧
    s.engineB.demands.length ≤ Config.demandEntries

/-- Twelfth law (R45): in PAIRED, Engine B is STOPPED. -/
def State.PairedStopsB (s : State) : Prop := s.arrangement = .paired → s.engineB.run = .stopped

/-- A record in CLEAR has level and class 0, and any other has class 1 or 2 (R82). -/
def State.RecordsSound (s : State) : Prop :=
  ∀ i : Fin 64, if (s.attn i).state = .clear then s.attn i = .none else (s.attn i).cls ≠ 0

/-- The host half state takes only the two values of the pair's direction (R115). -/
def Pair.StateFits (p : Pair) : Prop :=
  match p.direction with
  | .capture => p.hostState = .unread ∨ p.hostState = .released
  | .output => p.hostState = .editing ∨ p.hostState = .committed

/-- Every pair's host half state fits its direction. -/
def State.PairsFit (s : State) : Prop := ∀ p : Fin 16, (s.pair p).StateFits

/-! ### What a configuration may hold -/

/-- The settings of a port are in range (R1; the other ranges are those of the fields' types). -/
def PortSettings.InRange (c : PortSettings) : Prop := 1 ≤ c.gap.toNat ∧ c.gap.toNat ≤ 16

/-- A station's configuration is in range (R19). -/
def StationConfig.InRange (c : StationConfig) : Prop := 1 ≤ c.address.toNat ∧ c.address.toNat ≤ 127

/-- The FIXED fields of a slot are in range (R37, R39). -/
def FixedFields.InRange (x : FixedFields) : Prop :=
  1 ≤ x.count.toNat ∧ x.count.toNat ≤ 16 ∧ (x.request = .status ∨ x.wordOffset.val + x.count.toNat ≤ 128)

/-- A slot is in range (R37). -/
def Slot.InRange (s : Slot) : Prop :=
  divisorOk s.divisor = true ∧ s.phase.toNat < s.divisor.toNat ∧ ∀ x, s.fixed = some x → x.InRange

/-- A bank is in range (R36, R37). -/
def Bank.InRange (b : Bank) : Prop := 10 ≤ b.header.period.toNat ∧ ∀ i : Fin 128, b.slots[i].InRange

/-- A descriptor is in range (R102, R104); that a transfer's words fit the half is what R110 keeps. -/
def Descriptor.InRange (d : Descriptor) : Prop :=
  1 ≤ d.perTransfer.toNat ∧ d.perTransfer.toNat ≤ 16 ∧ d.wordOffset.val + d.perTransfer.toNat ≤ 128

/-- The items of an image are in range, and no two enabled stations of one scope share an address (R168, step 3). -/
structure Image.InRange (m : Image) : Prop where
  portA : m.portA.InRange
  portB : m.portB.InRange
  headerA : 10 ≤ m.headerA.period.toNat
  headerB : 10 ≤ m.headerB.period.toNat
  stations : ∀ i : Fin 64, m.stations[i].InRange
  slotsA : ∀ i : Fin 128, m.slotsA[i].InRange
  slotsB : ∀ i : Fin 128, m.slotsB[i].InRange
  descriptors : ∀ d : Fin 32, m.descriptors[d].InRange
  noClash : anyClash m.arrangement (fun i => m.stations[i]) = false

/-- The live configuration is in range: both ports, all four banks, every station and every descriptor, and no two enabled
stations of one scope share an address (R1, R19, R21, R36, R37, R102). -/
structure State.ConfigFits (s : State) : Prop where
  portA : s.portA.settings.InRange
  portB : s.portB.settings.InRange
  bankAX : s.engineA.bankX.InRange
  bankAY : s.engineA.bankY.InRange
  bankBX : s.engineB.bankX.InRange
  bankBY : s.engineB.bankY.InRange
  stations : ∀ i : Fin 64, (s.station i).config.InRange
  descriptors : ∀ d : Fin 32, (s.descriptor d).InRange
  noClash : anyClash s.arrangement (fun i => (s.station i).config) = false

/-! ### The laws of the other units -/

/-- The region's cells keep their canonical form, inside the region (R160). -/
def State.RegionSound (s : State) : Prop :=
  Memory.wf s.region.cells = true ∧ ∀ c ∈ s.region.cells, c.1 < 64 * Memory.pageSize

/-- The region holds the bytes of an image's pages 1 to `n`, none of them torn (R163). -/
def Region.HoldsPages (r : Region) (m : Image) (n : Nat) : Prop :=
  ∀ p : Nat, 1 ≤ p → p ≤ n → r.isTorn p = false ∧ r.bytes (p * Memory.pageSize) Memory.pageSize = m.pageBytes p

/-- Eleventh law (R161) with what it rests on (R160, R163, R165, R167). With the controller IDLE the image is VALID exactly when
the start-up check of the region gives IMAGE. An operation in progress leaves it INVALID, and the region holds no marker before
the marker page's program has run to its end. A save's snapshot is in range, the pages behind it hold its bytes, and its
completed marker page makes the region one that start-up finds to hold it. -/
def State.ImageSound (s : State) : Prop :=
  match s.store with
  | .idle => s.imageState = .valid ↔ s.region.check.1 = .image
  | .erasing op _ => s.imageState = .invalid ∧ s.region.holdsMarker = false ∧ ∀ m, op = .save m → m.InRange
  | .programming m page _ _ =>
    s.imageState = .invalid ∧ s.region.holdsMarker = false ∧ m.InRange ∧ 1 ≤ page ∧ page ≤ 21 ∧
      s.region.HoldsPages m (page - 1)
  | .marking m _ complete =>
    s.imageState = .invalid ∧ m.InRange ∧ s.region.HoldsPages m 21 ∧
      if complete then s.region.check = (.image, some m) else s.region.holdsMarker = false

/-- A free transmitter has nothing to send (R151), a reply waits only while its request is in processing (R150), and a request
buffer holds no frame longer than the link carries (R147). -/
def State.LinkSound (s : State) : Prop :=
  (s.tx = none → s.replySlot = none ∧ s.notices = []) ∧ (s.processing = none → s.replySlot = none ∧ s.held = none) ∧
    ∀ f, s.processing = some f ∨ s.held = some f → f.payload.length ≤ Config.maxPayload

/-- A port agrees with its phase (1.5, R4, R5): the monitor is SUSPENDED exactly outside IDLE, a frame leaves exactly in SENDING,
and the receiver holds a character, or waits for RXD to return high, in a reply window alone, and never both. -/
def Port.PhaseFits (p : Port) : Prop :=
  (p.phase = .idle ↔ p.monitor ≠ .suspended) ∧ p.shifter.isSome = p.de ∧
    (p.rxChar ≠ none → p.receiving = true) ∧
    (p.rxBreak = true → p.receiving = true ∧ p.rxd = .low ∧ p.rxChar = none)

/-- A STOPPED engine does nothing: no activity and no period timer (R44). -/
def EngineState.StoppedIdle (en : EngineState) : Prop := en.run = .stopped → en.activity = .none ∧ en.timer = none

/-- The record of a transaction in flight (R64, R67, R68): it has no final outcome, attempts remain of its 1 to 4, and it holds no
more reply statuses than attempts made. -/
def Transaction.InProgress (t : Transaction) : Prop :=
  t.outcome = none ∧ t.made < t.limit ∧ t.limit ≤ 4 ∧ t.statuses.length ≤ t.made

/-- First and second law, and R26: a transaction in flight is in progress, its subject is enabled, in its engine's scope and
marked with that engine, and a transfer holds its descriptor's claim. -/
def State.InFlightMarked (s : State) (e : Engine) : Prop :=
  match (s.engine e).activity with
  | .inTransaction t =>
    t.InProgress ∧ (s.station t.subject).inTransaction = some e ∧ (s.station t.subject).config.enabled = true ∧
      scopeOf s.arrangement (s.station t.subject).config = e ∧
      match t.source with
      | .transfer d => s.claim d = some e
      | .fixed .. => True
      | .probe .. => True
      | .acknowledge => True
      | .sweep => True
      | .demand .. => True
  | .none => True
  | .waiting => True
  | .gap _ => True
  | .cycleWait => True

/-- R26, R103 and R114 from the mark's side: a station marked with an engine is the subject of that engine's transaction, and a
claim that names an engine is held by its transfer in flight; a STOPPED engine has neither. -/
def State.MarksHeld (s : State) : Prop :=
  (∀ (i : Fin 64) (e : Engine), (s.station i).inTransaction = some e →
    ∃ t, (s.engine e).activity = .inTransaction t ∧ t.subject = i) ∧
  (∀ (d : Fin 32) (e : Engine), s.claim d = some e →
    ∃ t, (s.engine e).activity = .inTransaction t ∧ t.source = .transfer d)

/-- The tables keep their capacities and ranges. -/
def State.TablesSound (s : State) : Prop :=
  s.QueuesBounded ∧ s.HealthAgrees ∧ s.PairsFit ∧ s.ConfigFits ∧ s.PairedStopsB

/-- The store, the link and the ports agree within themselves. -/
def State.UnitsSound (s : State) : Prop :=
  s.RegionSound ∧ s.ImageSound ∧ s.LinkSound ∧ s.portA.PhaseFits ∧ s.portB.PhaseFits

/-- The service stack and the attention records agree. -/
def State.ServiceSound (s : State) : Prop := s.StackSound ∧ s.RecordsSound

/-- The attention law with what it rests on. -/
def State.AttentionSound (s : State) : Prop :=
  s.IdleUnlessServable ∧ s.InFlightMarked .a ∧ s.InFlightMarked .b ∧ s.MarksHeld ∧ s.engineA.StoppedIdle ∧
    s.engineB.StoppedIdle

/-! ### Request frames -/

/-- The host-link frame of a request command (11.4); none for the events. -/
def requestFrame : Instr → Option Frame
  | .identify tag => some ⟨0x01, tag, []⟩
  | .getStatus tag => some ⟨0x02, tag, []⟩
  | .restart tag => some ⟨0x03, tag, []⟩
  | .timeSet tag value => some ⟨0x04, tag, stampBytes value⟩
  | .partSet tag mask level enables => some ⟨0x05, tag, [mask, level, enables]⟩
  | .partGet tag => some ⟨0x06, tag, []⟩
  | .arrange tag arrangement => some ⟨0x07, tag, [arrangement]⟩
  | .portSet tag port rate parity stopBits timeout gap => some ⟨0x08, tag, [port, rate, parity, stopBits, timeout, gap]⟩
  | .portGet tag port => some ⟨0x09, tag, [port]⟩
  | .lineStart tag engine => some ⟨0x0A, tag, [engine]⟩
  | .lineStop tag engine mode => some ⟨0x0B, tag, [engine, mode]⟩
  | .lineStatus tag engine => some ⟨0x0C, tag, [engine]⟩
  | .stationSet tag station flags address level descriptor retries =>
    some ⟨0x0D, tag, [station, flags, address, level, descriptor, retries, 0, 0, 0]⟩
  | .stationGet tag station => some ⟨0x0E, tag, [station]⟩
  | .slotSet tag engine slot kind offset divisor phase station request point count pair wordOffset flipAfter =>
    some ⟨0x0F, tag, [engine, slot, kind] ++ wordBytes offset ++ [divisor, phase, station, request] ++ wordBytes point ++
      [count, pair, wordOffset, flipAfter, 0, 0, 0]⟩
  | .slotGet tag engine bank slot => some ⟨0x10, tag, [engine, bank, slot]⟩
  | .bankHeaderSet tag engine period slotCount slack =>
    some ⟨0x11, tag, [engine] ++ wordBytes period ++ [slotCount] ++ wordBytes slack⟩
  | .bankHeaderGet tag engine bank => some ⟨0x12, tag, [engine, bank]⟩
  | .bankCopy tag engine => some ⟨0x13, tag, [engine]⟩
  | .bankSwap tag engine action => some ⟨0x14, tag, [engine, action]⟩
  | .descriptorSet tag descriptor kind point perTransfer remaining pair wordOffset flags =>
    some ⟨0x15, tag, [descriptor, kind] ++ wordBytes point ++
      [perTransfer, remaining, pair, wordOffset, flags, 0, 0, 0, 0, 0, 0, 0, 0]⟩
  | .descriptorGet tag descriptor => some ⟨0x16, tag, [descriptor]⟩
  | .pairSet tag pair direction => some ⟨0x17, tag, [pair, direction]⟩
  | .pairGet tag pair => some ⟨0x18, tag, [pair]⟩
  | .pairRead tag pair start count => some ⟨0x19, tag, [pair, start, count]⟩
  | .pairWrite tag pair start words => some ⟨0x1A, tag, [pair, start] ++ wordsBytes words⟩
  | .pairRelease tag pair => some ⟨0x1B, tag, [pair]⟩
  | .pairCommit tag pair => some ⟨0x1C, tag, [pair]⟩
  | .demand tag engine station kind point count words =>
    some ⟨0x1D, tag, [engine, station, kind] ++ wordBytes point ++ [count] ++ wordsBytes words⟩
  | .take tag => some ⟨0x1E, tag, []⟩
  | .done tag => some ⟨0x1F, tag, []⟩
  | .storeSave tag autostartA autostartB => some ⟨0x20, tag, [autostartA, autostartB]⟩
  | .storeErase tag => some ⟨0x21, tag, []⟩
  | .storeCancel tag => some ⟨0x22, tag, []⟩
  | .requestFrameComplete _ => none
  | .hostGapTimerExpiry => none
  | .replySent => none
  | .noticeSent => none
  | .powerOn _ _ => none
  | .resetPin _ _ => none
  | .storeWpAsserted _ => none
  | .blockEraseComplete _ => none
  | .eraseTimeout => none
  | .pageProgramComplete _ => none
  | .programTimeout => none
  | .periodExpiry _ => none
  | .slotStartTime _ => none
  | .requestFrameSent _ => none
  | .replyTimeout _ => none
  | .replyFrameComplete _ _ => none
  | .replyGapExpiry _ => none
  | .discardLimitReached _ => none
  | .abortedCharacterEnd _ => none
  | .turnaroundGapExpiry _ => none
  | .lineLow _ => none
  | .lineHigh _ => none
  | .lineMonitorTimerExpiry _ => none
  | .fieldCharacterReceived _ _ _ => none
  | .hostByteReceived _ _ => none

/-! ### Replies -/

/-- `s` after a request that raises no notice has been dispatched: the receiver is HUNTING, the request is in processing, and
its reply has been begun by a free transmitter or waits in the reply slot behind the frame being sent (R148 to R151). -/
def State.replied (s : State) (f : Frame) (r : Reply) : State :=
  match s.tx with
  | none => { s with rx := .hunting, processing := some f, tx := some ⟨.reply (f.answer r), 0⟩, replySlot := none }
  | some _ => { s with rx := .hunting, processing := some f, replySlot := some (f.answer r) }

/-- `t` holds the reply to a request dispatched in `s`, where `State.replied` puts it; what else `t` holds is not said. -/
def State.HoldsReply (s t : State) (f : Frame) (r : Reply) : Prop :=
  t.rx = .hunting ∧ t.processing = some f ∧
    match s.tx with
    | none => t.tx = some ⟨.reply (f.answer r), 0⟩ ∧ t.replySlot = none
    | some x => t.tx = some x ∧ t.replySlot = some (f.answer r)

/-- `s` while a request's frame is dispatched: the receiver is HUNTING, and notices that the dispatch raises are queued and
not begun, for they are "sent after the reply" (R151). -/
def State.inDispatch (s : State) (f : Frame) : State := ({ s with rx := .hunting } : State).reserveTx f

/-- Notices are raised in order, in one event. -/
def State.raiseAll (s : State) (ns : List Notice) : State := ns.foldl (fun u n => u.raise n) s

/-- `s` after a request has been dispatched whose effect on what the link does not own is `effect` and which raises the notices
`ns`: they are queued in the event that places the reply, behind it (R151). -/
def State.dispatched (s : State) (f : Frame) (r : Reply) (ns : List Notice) (effect : State → State) : State :=
  ((effect (s.inDispatch f)).raiseAll ns).placeReply f r s.tx

/-- The engine that uses a port, and in whose scope a station of that home line is (R2, R18, R21). -/
def engineFor (arr : Arrangement) (line : Side) : Engine :=
  match arr with
  | .independent => line
  | .paired => .a

/-- The head of the escalated set: the first of its stations by level, highest first, and then by index (R133). -/
def State.IsHead (s : State) (i : Fin 64) : Prop :=
  (s.attn i).state = .escalated ∧
    ∀ j : Fin 64, (s.attn j).state = .escalated → (s.attn j).level < (s.attn i).level ∨
      (s.attn j).level = (s.attn i).level ∧ i ≤ j

/-- The payload lengths that a request kind allows (11.4; DEMAND and PAIR-WRITE allow the even ones of their ranges). -/
def lengthAllowed (kind len : Nat) : Bool :=
  match kind with
  | 0x04 => decide (len = 4)
  | 0x05 => decide (len = 3)
  | 0x08 => decide (len = 6)
  | 0x0D => decide (len = 9)
  | 0x0F => decide (len = 18)
  | 0x11 => decide (len = 6)
  | 0x15 => decide (len = 17)
  | 0x1A => decide (4 ≤ len ∧ len ≤ 242 ∧ len % 2 = 0)
  | 0x1D => decide (6 ≤ len ∧ len ≤ 38 ∧ len % 2 = 0)
  | 0x07 | 0x09 | 0x0A | 0x0C | 0x0E | 0x13 | 0x16 | 0x18 | 0x1B | 0x1C => decide (len = 1)
  | 0x0B | 0x12 | 0x14 | 0x17 | 0x20 => decide (len = 2)
  | 0x10 | 0x19 => decide (len = 3)
  | _ => decide (len = 0)

/-- A run of commands, one after another, with no command between them; it ends at the first that does not go on. -/
def runAll : List Instr → State → Host.Outcome State Fault Refusal
  | [], s => .next s
  | c :: rest, s =>
    match exec c s with
    | .next t => runAll rest t
    | .fault r => .fault r
    | .refused r => .refused r

end Sys2Proof.Machine
end

