-- ==== Sys2Proof/Certificates/Slice0/Obligations.lean ====
section
/-!
DEFINITION. The statements for the provers. A request command is stated in states with nothing in processing, where it is
dispatched; `BuffersPlaceEveryRequest` says what the others do with it. `State.replied` and `State.HoldsReply` say where the
reply stands; `State.inDispatch` is the state in which a dispatch works.
-/

section Statements

open Sys2Proof Sys2Proof.Machine

/-! ### The queue of commands -/

/-- A step runs the command at the front of the queue on the state with the queue's rest: first in, first out, the order in which
events that fall together are taken (log entry 2). MODEL'S CHOICE (log entry 4): a step on an empty queue is one microsecond. In
a number of microseconds the time tag rises by that number and wraps, a running cycle timer counts on, a frame that leaves a port
or the host link goes on (log entry 5), and nothing else changes. The engine, port, station, attention record, descriptor, claim and
pair of a name or an index are the state's own, and writing one leaves everything else. -/
def Obligations.StepRunsFrontCommandOrCountsTime : Prop :=
  (∀ (s : State) (c : Instr) (rest : List Instr), s.pending = c :: rest → step s = exec c { s with pending := rest }) ∧
  (∀ s : State, s.pending = [] → step s = .next (s.advance 1)) ∧
  (∀ (s : State) (us : Nat), s.advance us = { s with
    time := s.time + BitVec.ofNat 32 us
    engineA := { s.engineA with timer := s.engineA.timer.map fun t => ⟨t.period, t.elapsed + us⟩ }
    engineB := { s.engineB with timer := s.engineB.timer.map fun t => ⟨t.period, t.elapsed + us⟩ }
    portA := { s.portA with shifter := s.portA.shifter.map fun x => ⟨x.format, x.chars, x.elapsed + us⟩ }
    portB := { s.portB with shifter := s.portB.shifter.map fun x => ⟨x.format, x.chars, x.elapsed + us⟩ }
    tx := s.tx.map fun x => ⟨x.content, x.elapsed + us⟩ }) ∧
  (∀ s : State, s.engine .a = s.engineA ∧ s.engine .b = s.engineB ∧ s.port .a = s.portA ∧ s.port .b = s.portB ∧
    (∀ g, s.withEngine .a g = { s with engineA := g s.engineA } ∧ s.withEngine .b g = { s with engineB := g s.engineB }) ∧
    (∀ g, s.withPort .a g = { s with portA := g s.portA } ∧ s.withPort .b g = { s with portB := g s.portB }) ∧
    (∀ i g, s.station i = s.stations[i] ∧ s.withStation i g = { s with stations := s.stations.set i (g s.stations[i]) }) ∧
    (∀ i r, s.attn i = s.attention[i] ∧ s.setAttn i r = { s with attention := s.attention.set i r }) ∧
    (∀ d r, s.descriptor d = s.descriptors[d] ∧ s.setDescriptor d r = { s with descriptors := s.descriptors.set d r }) ∧
    (∀ d c, s.claim d = s.claims[d] ∧ s.setClaim d c = { s with claims := s.claims.set d c }) ∧
    ∀ p r, s.pair p = s.pairs[p] ∧ s.setPair p r = { s with pairs := s.pairs.set p r })

/-- Every command is executed in every state: none stops the part, an event that the state excludes goes on too (MODEL'S CHOICE,
log entry 3), and none touches the commands that wait behind it, a reset included (MODEL'S CHOICE, log entry 19). -/
def Obligations.EveryCommandGoesOn : Prop :=
  ∀ (c : Instr) (s : State), ∃ t, exec c s = .next t ∧ t.pending = s.pending

/-! ### The host link (chapter 9) -/

/-- A request command is the arrival of its whole frame, with the receiver HUNTING behind it whatever it was assembling (MODEL'S
CHOICE, log entry 1); the cases of R148's table, for any frame that is received, one of an unknown KIND or LEN among them. With
nothing in processing the frame is dispatched even while one is held, which comes about in no run (MODEL'S CHOICE, log entry 20). A
payload longer than a frame carries is discarded (R147). -/
def Obligations.BuffersPlaceEveryRequest : Prop :=
  (∀ (i : Instr) (f : Frame) (s : State), requestFrame i = some f →
    (250 < f.payload.length → exec i s = .next { s with rx := .hunting }) ∧
    (f.payload.length ≤ 250 →
      (∀ g h, s.processing = some g → s.held = some h → exec i s = .next { s with rx := .hunting }) ∧
      (∀ g, s.processing = some g → s.held = none → exec i s = .next { s with rx := .hunting, held := some f }) ∧
      (s.processing = none → ∃ r t, exec i s = .next t ∧ s.HoldsReply t f r ∧ t.held = s.held))) ∧
  (∀ (i : Instr) (f : Frame) (s : State), requestFrame i = some f → exec i s = .next (s.receiveFrame f)) ∧
  ∀ (f : Frame) (s : State),
    (250 < f.payload.length → s.receiveFrame f = { s with rx := .hunting }) ∧
    (f.payload.length ≤ 250 →
      (∀ g h, s.processing = some g → s.held = some h → s.receiveFrame f = { s with rx := .hunting }) ∧
      (∀ g, s.processing = some g → s.held = none → s.receiveFrame f = { s with rx := .hunting, held := some f }) ∧
      (s.processing = none → ∃ r, s.HoldsReply (s.receiveFrame f) f r ∧ (s.receiveFrame f).held = s.held))

/-- R147's table: what the receiver does with one byte in HUNTING and in ASSEMBLING, and with the frame that a byte completes; and
the expiry of its gap timer, which runs in ASSEMBLING alone: elsewhere it changes nothing (MODEL'S CHOICE, log entry 3). Behind a
framing error no byte is taken until HL_RXD has returned high (R145), which the byte's command tells (log entry 11). -/
def Obligations.ReceiverTakesEachByte : Prop :=
  ∀ (s : State) (b : Byte) (stop : Level) (returned : Bool),
    let c := Instr.hostByteReceived b ⟨stop, returned⟩
    exec .hostGapTimerExpiry s = .next (match s.rx with
      | .assembling _ => { s with rx := .hunting }
      | _ => s) ∧
    (stop = .low → exec c s = .next { s with rx := .waitHigh }) ∧
    (s.rx = .waitHigh → returned = false → exec c s = .next s) ∧
    (stop = .high → s.rx = .hunting ∨ s.rx = .waitHigh ∧ returned = true → exec c s =
      .next { s with rx := if b = 0xC3 then .assembling [] else .hunting }) ∧
    ∀ bytes, s.rx = .assembling bytes → stop = .high →
      (bytes = [] → exec c s = .next { s with rx := if 250 < b.toNat then .hunting else .assembling [b] }) ∧
      ∀ len rest, bytes = len :: rest → len.toNat ≤ 250 →
        (bytes.length + 1 < len.toNat + 5 → exec c s = .next { s with rx := .assembling (bytes ++ [b]) }) ∧
        (bytes.length + 1 = len.toNat + 5 →
          (∀ f : Frame, f.payload.length ≤ 250 → bytes ++ [b] = f.covered ++ wordBytes (frameCheck f.covered) →
            exec c s = .next (s.receiveFrame f)) ∧
          ((∀ f : Frame, f.payload.length ≤ 250 → bytes ++ [b] ≠ f.covered ++ wordBytes (frameCheck f.covered)) →
            exec c s = .next { s with rx := .hunting }))

/-- The bytes that complete a frame, from HUNTING or from any place inside the frame (log entry 11): with a good check the frame
is received as its request command is, and with any other check it is discarded and the receiver hunts. A receiver that waited for
HL_RXD to return high takes the bytes as one that hunts: clean bytes come on a line that has. -/
def Obligations.FrameCompletesFromAnyPlace : Prop :=
  ∀ (s : State) (f : Frame) (c1 c0 : Byte) (pre rest : List Byte), f.payload.length ≤ 250 → rest ≠ [] →
    0xC3 :: (f.covered ++ [c1, c0]) = pre ++ rest →
    (match pre with
      | [] => s.rx = .hunting ∨ s.rx = .waitHigh
      | _ :: taken => s.rx = .assembling taken) →
    exec (.requestFrameComplete rest) s =
      .next (if wordOf c1 c0 = frameCheck f.covered then s.receiveFrame f else { s with rx := .hunting })

/-- The bytes of a request's frame, sent one by one to a receiver that hunts, on a line that is high, do what the request command
does: the encoding of every request command is taken back as that command. MODEL'S CHOICES: the request command is the arrival of
the whole frame (log entry 1), and what the commands of bytes and of a completed frame carry (log entry 11). A frame that differs
from it in bytes that 11.3 calls unused (those of the station, slot and descriptor records, and the FIXED fields of an ATTENTION
slot) has the same effect and reply (R171). -/
def Obligations.FrameByteByByteIsTheRequest : Prop :=
  (∀ (i : Instr) (f : Frame) (s : State) (returned : Bool), requestFrame i = some f → i.wellFormed = true →
    s.rx = .hunting ∨ s.rx = .waitHigh ∧ returned = true →
    runAll (f.wire.map fun b => .hostByteReceived b ⟨.high, returned⟩) s = exec i s) ∧
  ∀ (i : Instr) (f g : Frame) (s : State), requestFrame i = some f → i.wellFormed = true →
    s.rx = .hunting → s.processing = none →
    let unused : Nat → Prop := fun k => f.kind = 0x0D ∧ 6 ≤ k ∨ f.kind = 0x15 ∧ 9 ≤ k ∨
      f.kind = 0x0F ∧ (15 ≤ k ∨ f.payload[2]? = some 0 ∧ 7 ≤ k)
    g.kind = f.kind → g.tag = f.tag → g.payload.length = f.payload.length →
    (∀ k : Nat, ¬ unused k → g.payload[k]? = f.payload[k]?) →
    ∃ t, exec i s = .next t ∧ exec (.requestFrameComplete g.wire) s = .next { t with processing := some g }

/-- The end of a notice: the reply in the slot goes first, then the head of the queue (R151); with no notice being sent the event
changes nothing (log entry 3). The end of a reply (R148), when the request in processing is no RESTART: processing is emptied; a
held request, of whatever KIND and LEN, is dispatched as on its arrival; without one the transmitter chooses. With no reply being
sent it changes nothing (log entry 3). A dispatch's notices wait behind its reply, which a transmitter that was free takes (R151,
log entry 14). -/
def Obligations.TransmitterChoosesAfterEachFrame : Prop :=
  (∀ s : State,
    (∀ n us, s.tx = some ⟨.notice n, us⟩ →
      (∀ f, s.replySlot = some f → exec .noticeSent s = .next { s with tx := some ⟨.reply f, 0⟩, replySlot := none }) ∧
      (∀ m rest, s.replySlot = none → s.notices = m :: rest →
        exec .noticeSent s = .next { s with tx := some ⟨.notice m, 0⟩, notices := rest }) ∧
      (s.replySlot = none → s.notices = [] → exec .noticeSent s = .next { s with tx := none })) ∧
    ((∀ n us, s.tx ≠ some ⟨.notice n, us⟩) → exec .noticeSent s = .next s)) ∧
  (∀ (s : State) (r g : Frame) (us : Nat), s.tx = some ⟨.reply r, us⟩ → s.processing = some g →
      ¬ (g.kind = 0x03 ∧ g.payload = []) →
    (s.held = none → s.replySlot = none →
      exec .replySent s = .next (match s.notices with
        | m :: rest => { s with processing := none, tx := some ⟨.notice m, 0⟩, notices := rest }
        | [] => { s with processing := none, tx := none })) ∧
    (∀ i h, s.held = some h → requestFrame i = some h → i.wellFormed = true → ∃ t,
      exec i { s with processing := none, held := none, tx := none } = .next t ∧
      exec .replySent s = .next { t with rx := s.rx }) ∧
    (∀ h, s.held = some h → h.payload.length ≤ 250 → ∃ t,
      exec (.requestFrameComplete h.wire) { s with rx := .hunting, processing := none, held := none, tx := none } = .next t ∧
      exec .replySent s = .next { t with rx := s.rx })) ∧
  (∀ s : State, (∀ r us, s.tx ≠ some ⟨.reply r, us⟩) → exec .replySent s = .next s) ∧
  ∀ (s : State) (f : Frame) (r : Reply) (tx : Option Transmission),
    s.inDispatch f = { s with rx := .hunting, tx := if s.tx = none then some ⟨.reply f, 0⟩ else s.tx } ∧
    (tx = none → s.placeReply f r tx =
      { s with processing := some f, replySlot := none, tx := some ⟨.reply (f.answer r), 0⟩ }) ∧
    (tx ≠ none → s.placeReply f r tx = { s with processing := some f, replySlot := some (f.answer r), tx := tx })

/-- R152 and R153: a raised notice takes the time tag; one of a disabled kind leaves no trace; a free transmitter begins it;
otherwise it joins the tail of the queue, or is discarded with the overrun flag set when the queue holds 32. ESCALATION, PAIR-FLIPPED,
STATION-STATE, CYCLE-REPORT and LINE-STATE (STOPPED and LINE-CALL) are gated each by its enable; STARTED, DEMAND-RESULT and
STORE-RESULT are not gated. -/
def Obligations.RaisedNoticeIsQueuedOrDropped : Prop :=
  ∀ (s : State) (n : Notice),
    (n.enabled s.enables = false → s.raise n = s) ∧
    (n.enabled s.enables = true →
      (s.tx = none → s.replySlot = none → s.notices = [] → s.raise n = { s with tx := some ⟨.notice ⟨n, s.time⟩, 0⟩ }) ∧
      (∀ x, s.tx = some x → s.notices.length < 32 → s.raise n = { s with notices := s.notices ++ [⟨n, s.time⟩] }) ∧
      (∀ x, s.tx = some x → 32 ≤ s.notices.length → s.raise n = { s with overrun := true })) ∧
    n.enabled s.enables = match n with
      | .escalation .. => s.enables.escalation
      | .pairFlipped .. => s.enables.pairFlipped
      | .stationState .. => s.enables.stationState
      | .cycleReport .. => s.enables.cycleReport
      | .lineStopped .. => s.enables.lineState
      | .lineCall .. => s.enables.lineState
      | .started .. => true
      | .demandResult .. => true
      | .storeResult .. => true

/-- The bytes and bits that leave the part. Fields are sent high byte first. A notice goes as a frame of its KIND, TAG 0 and its
payload with its time tag (R152, 11.5), behind the sync and before the check (R146). A reply goes under the request's KIND plus 0x80,
or 0xFF, with its TAG, the result code and the items (R150); results and enumerated values have the codes of 11.2, and status, enable
and flag bytes the bits of 11.1 and 11.3. A field request's frame is that of R7 and
11.1. A character on a field line is a start bit, eight data bits, least significant first, the parity bit that makes the ones
even or odd, and the stop bits (R4); the port's rates are those of R1, and TXD is the bit that is shifting, high between frames
(that a frame's position is its time since the first start bit is log entry 5, for HL_TXD too). The host link's are those of R145:
HL_TXD is the bit that is leaving, the characters of a frame back to back, and high between frames. The check is R6's register:
0xFFFF at first, and for each bit, a byte's most significant first, shifted left, and then combined with 0x8005 when the bit and
the top bit differ; no inversion. -/
def Obligations.FramesCarryTheirFields : Prop :=
  let bit : Bool → Byte := fun b => if b then 1 else 0
  let side : Side → Byte := fun x => if x = .a then 0 else 1
  let last : Status → Byte := fun x =>
    BitVec.ofNat 8 (x.cls.val + (if x.busy then 4 else 0) + (if x.fault then 8 else 0))
  let pollCode : PollKind → Byte := fun k => match k with
    | .read => 1
    | .write => 2
    | .status => 3
  let levelFor : Bool → Level := fun b => if b then .high else .low
  (∀ covered : List Byte, frameCheck covered =
    (covered.flatMap fun b => [7, 6, 5, 4, 3, 2, 1, 0].map fun k => b.getLsbD k).foldl
      (fun (r : Word) b => if b = r.getLsbD 15 then r <<< 1 else (r <<< 1) ^^^ 0x8005) 0xFFFF) ∧
  (∀ w : Word, wordBytes w = [BitVec.ofNat 8 (w.toNat / 256), BitVec.ofNat 8 w.toNat]) ∧
  (∀ t : Stamp, stampBytes t = [BitVec.ofNat 8 (t.toNat / 16777216), BitVec.ofNat 8 (t.toNat / 65536),
    BitVec.ofNat 8 (t.toNat / 256), BitVec.ofNat 8 t.toNat]) ∧
  (∀ f : Frame, f.wire =
    let covered := BitVec.ofNat 8 f.payload.length :: f.kind :: f.tag :: f.payload
    0xC3 :: (covered ++ wordBytes (frameCheck covered))) ∧
  (∀ (f : Frame) (r : Reply), f.answer r =
    ⟨if f.kind.toNat < 0x80 then f.kind + 0x80 else 0xFF, f.tag, r.result.code :: r.items⟩) ∧
  ([ResultCode.ok, .accepted, .badKind, .badLength, .badValue, .busy, .lineRunning, .notRunning, .alreadyStopping,
      .wrongArrangement, .wrongLine, .wrongDirection, .stationActive, .stationDisabled, .duplicateAddress, .descriptorBusy,
      .pairCommitted, .full, .none, .stackFull, .stackEmpty, .isProtected].map ResultCode.code =
    [0x00, 0x01, 0x02, 0x03, 0x04, 0x05, 0x06, 0x07, 0x08, 0x09, 0x0A, 0x0B, 0x0C, 0x0D, 0x0E, 0x0F, 0x10, 0x11, 0x12, 0x13,
      0x14, 0x15]) ∧
  ([Side.a, .b].map sideCode = [0, 1] ∧ [BankId.x, .y].map BankId.code = [0, 1] ∧
    [Arrangement.independent, .paired].map Arrangement.code = [0, 1] ∧
    [none, some Side.a, some Side.b].map claimCode = [0, 1, 2] ∧
    (∀ m, [RunState.stopped, .running, .stopping m].map RunState.code = [0, 1, 2]) ∧
    [StopMode.afterCycle, .afterTransaction, .abort].map StopMode.code = [1, 2, 3] ∧
    (∀ t p, [Activity.none, .waiting, .inTransaction t, .gap p, .cycleWait].map Activity.code = [0, 1, 2, 3, 4]) ∧
    (∀ n x d q, [Source.fixed n x, .probe n x, .transfer d, .acknowledge, .sweep, .demand q].map Source.code =
      [1, 2, 3, 4, 5, 6]) ∧
    [LineOutcome.good, .busy, .noReply, .garbled, .wrongStation, .aborted, .discarded].map LineOutcome.code =
      [0, 1, 2, 3, 4, 5, 6] ∧
    [Health.online, .suspect, .offline].map Health.code = [0, 1, 2] ∧
    [AttnState.clear, .pending, .serving, .escalated, .held, .acking].map AttnState.code = [0, 1, 2, 3, 4, 5] ∧
    [Direction.capture, .output].map Direction.code = [0, 1] ∧ [Half.zero, .one].map Half.code = [0, 1] ∧
    [HostHalf.unread, .released, .editing, .committed].map HostHalf.code = [0, 1, 2, 3] ∧
    (∀ w a x cs k, [PortPhase.idle, .sending w, .awaiting a x, .receiving a cs, .discarding a k, .turnaround].map
      PortPhase.code = [0, 1, 2, 3, 4, 5]) ∧
    [Monitor.armed, .timing, .waitHigh, .suspended].map Monitor.code = [0, 1, 2, 3] ∧
    [Parity.none, .even, .odd].map Parity.code = [0, 1, 2] ∧ [StopBits.one, .two].map StopBits.code = [1, 2] ∧
    [ImageState.invalid, .valid].map ImageState.code = [0, 1] ∧
    [StartSource.image, .noImage, .badCheck].map StartSource.code = [0, 1, 2] ∧
    (∀ op k m p x y, [Store.idle, .erasing op k, .programming m p x y, .marking m x y].map Store.code = [0, 1, 2, 3]) ∧
    [PollKind.read, .write, .status].map PollKind.code = [1, 2, 3] ∧ [XferKind.read, .write].map XferKind.code = [1, 2]) ∧
  ((∀ n, byteOf n = BitVec.ofNat 8 n) ∧ (∀ n, countBytes n = wordBytes (BitVec.ofNat 16 n)) ∧
    (∀ ws, wordsBytes ws = ws.flatMap wordBytes) ∧ (∀ x : Status, x.toByte = last x) ∧
    (∀ x : Enables, x.toByte = BitVec.ofNat 8 ((if x.escalation then 1 else 0) + (if x.pairFlipped then 2 else 0) +
      (if x.stationState then 4 else 0) + (if x.cycleReport then 8 else 0) + (if x.lineState then 16 else 0))) ∧
    (∀ c : StationConfig, c.flags = BitVec.ofNat 8 ((if c.enabled then 1 else 0) + (if c.home = .b then 2 else 0) +
      (if c.alternate = .other then 4 else 0) + (if c.mode = .descriptor then 8 else 0) +
      (if c.switchOnRetry then 16 else 0) + (if c.sweepMember then 32 else 0)))) ∧
  (∀ (n : Notice) (t : Stamp), (Raised.mk n t).frame = match n with
    | .started cause source image arr a b => ⟨0x40, 0,
        [match cause with
          | .powerOn => 0
          | .resetPin => 1
          | .restart => 2,
        match source with
          | .image => 0
          | .noImage => 1
          | .badCheck => 2,
        if image = .valid then 1 else 0, if arr = .paired then 1 else 0,
        (if a then 1 else 0) + (if b then 2 else 0)] ++ stampBytes t⟩
    | .demandResult tag e i k o attempts x data => ⟨0x41, 0,
        [tag, side e, BitVec.ofNat 8 i.val, pollCode k,
        match o with
          | .good => 0
          | .busy => 1
          | .noReply => 2
          | .garbled => 3
          | .wrongStation => 4
          | .aborted => 5
          | .discarded => 6,
        BitVec.ofNat 8 attempts, last x] ++ stampBytes t ++ [BitVec.ofNat 8 data.length] ++ data.flatMap wordBytes⟩
    | .escalation i level cls mode origin count service => ⟨0x42, 0,
        [BitVec.ofNat 8 i.val, BitVec.ofNat 8 level.val, BitVec.ofNat 8 cls.val, if mode = .descriptor then 1 else 0,
        if origin = none then 1 else 0,
        match origin with
          | none => 0
          | some .reply => 1
          | some .mask => 2
          | some .stationSet => 3
          | some .endAction => 4,
        BitVec.ofNat 8 count, BitVec.ofNat 8 service.val] ++ stampBytes t⟩
    | .pairFlipped p d cause e h sequence miss capture => ⟨0x43, 0,
        [BitVec.ofNat 8 p.val, if d = .output then 1 else 0,
        match cause with
          | .slot _ => 0
          | .descriptorWrap _ => 1
          | .descriptorEnd _ => 2,
        side e,
        match cause with
          | .slot x => BitVec.ofNat 8 x.val
          | .descriptorWrap x => BitVec.ofNat 8 x.val
          | .descriptorEnd x => BitVec.ofNat 8 x.val,
        if h = .one then 1 else 0] ++ wordBytes sequence ++ [bit miss] ++ stampBytes capture ++ stampBytes t⟩
    | .stationState i why health line x => ⟨0x44, 0,
        [BitVec.ofNat 8 i.val,
        match why with
          | .online => 0
          | .offline => 1
          | .lineChanged => 2
          | .faultSet => 3
          | .faultCleared => 4,
        match health with
          | .online => 0
          | .suspect => 1
          | .offline => 2,
        side line, last x] ++ stampBytes t⟩
    | .cycleReport e cycle bank k => ⟨0x45, 0, [side e] ++ wordBytes cycle ++ [if bank = .y then 1 else 0] ++
        ([k.executed, k.failed, k.idle, k.passed, k.skippedLate, k.overrun, k.refused].flatMap fun x =>
          wordBytes (BitVec.ofNat 16 x)) ++ stampBytes t⟩
    | .lineStopped e mode cycle => ⟨0x46, 0,
        [side e, 0,
        match mode with
          | .afterCycle => 1
          | .afterTransaction => 2
          | .abort => 3] ++ wordBytes cycle ++ stampBytes t⟩
    | .lineCall e p => ⟨0x46, 0, [side e, 1, side p, 0, 0] ++ stampBytes t⟩
    | .storeResult save outcome image => ⟨0x48, 0,
        [if save then 0 else 1] ++
        (match outcome with
          | .saved => [0, 0xFF, 0]
          | .erased => [1, 0xFF, 0]
          | .cancelled step byPin => [2, step, if byPin then 2 else 1]
          | .eraseFailed block => [3, BitVec.ofNat 8 block.val, 0]
          | .programFailed page => [4, BitVec.ofNat 8 page, 0]) ++
        [if image = .valid then 1 else 0] ++ stampBytes t⟩) ∧
  (∀ q : FieldRequest, q.wire =
    let covered := [q.address,
      match q.kind with
        | .read => 1
        | .write => 2
        | .status => 3
        | .acknowledge => 4] ++ wordBytes q.point ++ [q.count] ++ q.data.flatMap wordBytes
    0x5A :: (covered ++ wordBytes (frameCheck covered))) ∧
  (∀ (f : CharFormat) (c : Byte), ∃ parity : List Bool,
    f.levels c = [.low] ++ ([0, 1, 2, 3, 4, 5, 6, 7].map fun k => levelFor (c.getLsbD k)) ++ parity.map levelFor ++
      (if f.stopBits = .two then [.high, .high] else [.high]) ∧
    (f.parity = .none → parity = []) ∧
    (f.parity ≠ .none → ∃ b, parity = [b] ∧
      let ones := ([0, 1, 2, 3, 4, 5, 6, 7].countP fun k => c.getLsbD k) + (if b then 1 else 0)
      ones % 2 = if f.parity = .odd then 1 else 0)) ∧
  (∀ (f : CharFormat) (c : Byte), (f.levels c).length = f.bits ∧ f.bitRate = (match f.rate with
    | 0 => 1200
    | 1 => 2400
    | 2 => 4800
    | 3 => 9600
    | 4 => 19200
    | 5 => 38400
    | 6 => 57600
    | 7 => 115200
    | 8 => 230400)) ∧
  (∀ p : Port, (p.shifter = none → p.txd = .high) ∧ (p.de = true ↔ ∃ a, p.phase = .sending a) ∧
    ∀ x, p.shifter = some x →
      let at_ := x.elapsed * x.format.bitRate / 1000000
      p.txd = (x.chars.flatMap x.format.levels).getD at_ .high ∧
      ∀ k : Nat, k < x.chars.length → k * x.format.bits ≤ at_ → at_ < (k + 1) * x.format.bits →
        x.shifting = x.chars[k]? ∧ x.held = x.chars[k + 1]? ∧ x.cut = { x with chars := x.chars.take (k + 1) }) ∧
  (∀ c : Byte, hostLevels c = [.low] ++ ([0, 1, 2, 3, 4, 5, 6, 7].map fun k => levelFor (c.getLsbD k)) ++ [.high]) ∧
  (∀ s : State, (s.tx = none → s.hlTxd = .high) ∧
    ∀ x, s.tx = some x →
      let sent : Frame := match x.content with
        | .reply f => f
        | .notice n => n.frame
      s.hlTxd = (sent.wire.flatMap hostLevels).getD (x.elapsed * s.linkRate.bitRate / 1000000) .high) ∧
  (LinkRate.mk .low .low).bitRate = 19200 ∧ (LinkRate.mk .low .high).bitRate = 57600 ∧
  (LinkRate.mk .high .low).bitRate = 115200 ∧ (LinkRate.mk .high .high).bitRate = 460800

/-- R149, R150: a request refused at any step changes no state, and its reply carries the result code alone. A KIND that names no
request is answered BAD-KIND, and a length its kind does not allow BAD-LENGTH (steps 1 and 2), on a frame of any KIND and
payload. -/
def Obligations.RefusalsChangeNothing : Prop :=
  (∀ (i : Instr) (f : Frame) (s : State), requestFrame i = some f → i.wellFormed = true → s.processing = none →
    ∃ r t, exec i s = .next t ∧ s.HoldsReply t f r ∧
      (r.result ≠ .ok → r.result ≠ .accepted → r.items = [] ∧ t = s.replied f r)) ∧
  (∀ (s : State) (f : Frame), f.payload.length ≤ 250 → s.rx = .hunting → s.processing = none →
    (f.kind = 0 ∨ 0x22 < f.kind.toNat →
      exec (.requestFrameComplete f.wire) s = .next (s.replied f ⟨.badKind, []⟩)) ∧
    (f.kind ≠ 0 → f.kind.toNat ≤ 0x22 → lengthAllowed f.kind.toNat f.payload.length = false →
      exec (.requestFrameComplete f.wire) s = .next (s.replied f ⟨.badLength, []⟩)))

/-! ### Part-wide requests (chapters 9 and 5) -/

/-- IDENTIFY (R156): vendor code 0x2E, part code 264, revision 1, and the nine capacities in order. GET-STATUS (R155): the eleven
items as they stand, and the overrun flag is cleared. PART-GET (R87): M, D, the enables and the six counts in state-code order.
Nothing else changes. -/
def Obligations.PartIsReportedAsItStands : Prop :=
  (∀ (s : State) (tag : Byte), s.processing = none →
    exec (.identify tag) s =
      .next (s.replied ⟨0x01, tag, []⟩ ⟨.ok, [0x2E, 0x01, 0x08, 1, 64, 2, 128, 32, 16, 128, 8, 32, 4]⟩)) ∧
  (∀ (s : State) (tag : Byte), s.processing = none →
    exec (.getStatus tag) s = .next (({ s with overrun := false } : State).replied ⟨0x02, tag, []⟩ ⟨.ok,
      [s.arrangement.code, s.engineA.run.code, s.engineB.run.code, match s.stack with
        | [] => 0
        | x :: _ => byteOf x.level.val, byteOf s.stack.length,
        byteOf ((List.finRange 64).countP fun i => decide ((s.attn i).state = .escalated)),
        if s.overrun then 1 else 0, s.imageState.code, s.startSource.code, s.store.code] ++ stampBytes s.time⟩)) ∧
  (∀ (s : State) (tag : Byte), s.processing = none →
    exec (.partGet tag) s = .next (s.replied ⟨0x06, tag, []⟩ ⟨.ok,
      [byteOf s.mask.val, byteOf s.demandLevel.val, s.enables.toByte] ++
        [AttnState.clear, .pending, .serving, .escalated, .held, .acking].map fun x =>
          byteOf ((List.finRange 64).countP fun i => decide ((s.attn i).state = x))⟩))

/-- TIME-SET loads the time tag (R157): stamps, queued notices and the cycle timers keep what they hold. RESTART (R158): at
dispatch it is answered OK and nothing further changes; at the end of its reply the reset is taken in place of the event of R148,
whatever is held. -/
def Obligations.TimeIsSetAndRestartIsTaken : Prop :=
  (∀ (s : State) (tag : Byte) (value : Stamp), s.processing = none →
    exec (.timeSet tag value) s =
      .next (({ s with time := value } : State).replied ⟨0x04, tag, stampBytes value⟩ ⟨.ok, []⟩)) ∧
  (∀ (s : State) (tag : Byte),
    (s.processing = none → exec (.restart tag) s = .next (s.replied ⟨0x03, tag, []⟩ ⟨.ok, []⟩)) ∧
    (∀ r us, s.processing = some ⟨0x03, tag, []⟩ → s.tx = some ⟨.reply r, us⟩ →
      exec .replySent s = .next (s.fullReset .restart)))

/-- PART-SET (R85) with M or D out of 0..7 is refused BAD-VALUE; otherwise M, D and the enables are written, and with M unchanged
nothing else is. With a new M the mask set is made (R86): in index order, each record that is PENDING in HOST mode at a level
eligible under the new M becomes ESCALATED at its level, with an ENTRY notice above the service level; no other record changes,
and nothing else does. -/
def Obligations.PartSetWritesAndMasks : Prop :=
  (∀ (s : State) (tag m d n : Byte), s.processing = none →
    (7 < m.toNat ∨ 7 < d.toNat →
      exec (.partSet tag m d n) s = .next (s.replied ⟨0x05, tag, [m, d, n]⟩ ⟨.badValue, []⟩)) ∧
    (∀ (mm dd : Fin 8), m = byteOf mm.val → d = byteOf dd.val → mm = s.mask →
      exec (.partSet tag m d n) s = .next (({ s with
        demandLevel := dd
        enables := ⟨n.getLsbD 0, n.getLsbD 1, n.getLsbD 2, n.getLsbD 3, n.getLsbD 4⟩ } : State).replied
          ⟨0x05, tag, [m, d, n]⟩ ⟨.ok, []⟩))) ∧
  (∀ (s : State) (tag n : Byte) (mm dd : Fin 8), s.processing = none → mm ≠ s.mask →
    let enters : Fin 64 → Bool := fun i => decide ((s.attn i).state = .pending ∧ (s.station i).config.mode = .host ∧
      ((s.attn i).level = 8 ∨ mm.val < (s.attn i).level.val))
    exec (.partSet tag (byteOf mm.val) (byteOf dd.val) n) s =
      .next (s.dispatched ⟨0x05, tag, [byteOf mm.val, byteOf dd.val, n]⟩ ⟨.ok, []⟩
        (((List.finRange 64).filter fun i => enters i && decide (s.serviceLevel < (s.attn i).level)).map fun i =>
          .escalation i (s.attn i).level (s.attn i).cls .host (some .mask)
            ((List.finRange 64).countP fun j => decide ((s.attn j).state = .escalated) || (enters j && decide (j ≤ i)))
            s.serviceLevel)
        fun u => { u with
          mask := mm, demandLevel := dd
          enables := ⟨n.getLsbD 0, n.getLsbD 1, n.getLsbD 2, n.getLsbD 3, n.getLsbD 4⟩
          attention := Vector.ofFn fun i => { s.attn i with
            state := if enters i then .escalated else (s.attn i).state } }))

/-! ### Ports: settings and reading (chapter 1) -/

/-- PORT-SET (R2): BAD-VALUE for a port or a value out of range; LINE-RUNNING while the engine using the port is not STOPPED;
otherwise the five values are written and nothing else changes, intervals in progress and a running monitor included. PORT-GET
(R3): BAD-VALUE for a port other than A or B; otherwise the five settings, the engine that uses the port, the port phase and the
line-monitor state; nothing changes. -/
def Obligations.PortIsWrittenAndRead : Prop :=
  (∀ (s : State) (tag port rate parity stop timeout gap : Byte), s.processing = none →
    (1 < port.toNat ∨ 8 < rate.toNat ∨ 2 < parity.toNat ∨ stop = 0 ∨ 2 < stop.toNat ∨ 3 < timeout.toNat ∨ gap = 0 ∨
        16 < gap.toNat →
      exec (.portSet tag port rate parity stop timeout gap) s =
        .next (s.replied ⟨0x08, tag, [port, rate, parity, stop, timeout, gap]⟩ ⟨.badValue, []⟩)) ∧
    (∀ (p : PortId) (c : PortSettings), port = sideCode p → rate = byteOf c.rate.val → parity = c.parity.code →
        stop = c.stopBits.code → timeout = byteOf c.replyTimeout.val → gap = c.gap → gap ≠ 0 → gap.toNat ≤ 16 →
      exec (.portSet tag port rate parity stop timeout gap) s =
        .next (if (s.engine (engineFor s.arrangement p)).run = .stopped then
            (s.withPort p fun x => { x with settings := c }).replied
              ⟨0x08, tag, [port, rate, parity, stop, timeout, gap]⟩ ⟨.ok, []⟩
          else s.replied ⟨0x08, tag, [port, rate, parity, stop, timeout, gap]⟩ ⟨.lineRunning, []⟩))) ∧
  (∀ (s : State) (tag port : Byte), s.processing = none →
    (1 < port.toNat → exec (.portGet tag port) s = .next (s.replied ⟨0x09, tag, [port]⟩ ⟨.badValue, []⟩)) ∧
    (∀ p : PortId, port = sideCode p → exec (.portGet tag port) s = .next (s.replied ⟨0x09, tag, [port]⟩ ⟨.ok,
      [byteOf (s.port p).settings.rate.val, (s.port p).settings.parity.code, (s.port p).settings.stopBits.code,
        byteOf (s.port p).settings.replyTimeout.val, (s.port p).settings.gap,
        claimCode (some (engineFor s.arrangement p)), (s.port p).phase.code, (s.port p).monitor.code]⟩)))

/-! ### Stations (chapter 2) -/

/-- STATION-SET. Its checks in order (R22): BAD-VALUE; STATION-ACTIVE; DUPLICATE-ADDRESS in the scope of the new values; a refused
one changes no station and no attention record. Accepted (R23): the ten fields are written, health, fail count and current line
take their fresh values, the rest of the record is kept; a disabled station's attention record is CLEAR; a PENDING one is
re-evaluated under the new service mode and level, and enters ESCALATED when it is a HOST-mode record at an eligible level, with an
ENTRY notice above the service level (R91, R135). Nothing else changes. -/
def Obligations.StationSetIsCheckedAndWrites : Prop :=
  (∀ (s : State) (tag station flags address level descriptor retries : Byte), s.processing = none →
      let c := Instr.stationSet tag station flags address level descriptor retries
      let f : Frame := ⟨0x0D, tag, [station, flags, address, level, descriptor, retries, 0, 0, 0]⟩
      (63 < station.toNat ∨ address = 0 ∨ 127 < address.toNat ∨ 7 < level.toNat ∨ 31 < descriptor.toNat ∨ 3 < retries.toNat →
        exec c s = .next (s.replied f ⟨.badValue, []⟩)) ∧
      (∀ i : Fin 64, station = byteOf i.val → address ≠ 0 → address.toNat ≤ 127 → level.toNat ≤ 7 → descriptor.toNat ≤ 31 →
          retries.toNat ≤ 3 →
        ((s.station i).inTransaction ≠ none ∨ (s.attn i).state ≠ .clear ∧ (s.attn i).state ≠ .pending →
          exec c s = .next (s.replied f ⟨.stationActive, []⟩)) ∧
        ((s.station i).inTransaction = none → (s.attn i).state = .clear ∨ (s.attn i).state = .pending →
          flags.getLsbD 0 = true →
          (∃ j : Fin 64, j ≠ i ∧ (s.station j).config.enabled = true ∧ (s.station j).config.address = address ∧
            (s.arrangement = .independent →
              (s.station j).config.home = if flags.getLsbD 1 = true then .b else .a)) →
          exec c s = .next (s.replied f ⟨.duplicateAddress, []⟩)))) ∧
  (∀ (s : State) (tag flags address : Byte) (i : Fin 64) (lv : Fin 8) (d : Fin 32) (r : Fin 4),
      let c : StationConfig := {
        enabled := flags.getLsbD 0, address := address, home := if flags.getLsbD 1 then .b else .a
        alternate := if flags.getLsbD 2 then .other else .none, level := lv
        mode := if flags.getLsbD 3 then .descriptor else .host, descriptor := d, retries := r
        switchOnRetry := flags.getLsbD 4, sweepMember := flags.getLsbD 5 }
      s.processing = none → address ≠ 0 → address.toNat ≤ 127 → (s.station i).inTransaction = none →
      (s.attn i).state = .clear ∨ (s.attn i).state = .pending →
      (c.enabled = true → ∀ j : Fin 64, j ≠ i → (s.station j).config.enabled = true →
        (s.station j).config.address = c.address → s.arrangement = .independent ∧ (s.station j).config.home ≠ c.home) →
      let f : Frame := ⟨0x0D, tag, [byteOf i.val, flags, address, byteOf lv.val, byteOf d.val, byteOf r.val, 0, 0, 0]⟩
      let write : State → State := fun u => u.withStation i fun st =>
        { st with config := c, health := .online, failCount := 0, line := c.home }
      let level : Fin 9 := if (s.attn i).cls = 2 then 8 else lv.castSucc
      exec (.stationSet tag (byteOf i.val) flags address (byteOf lv.val) (byteOf d.val) (byteOf r.val)) s =
        .next (if c.enabled = false then ((write s).setAttn i ⟨.clear, 0, 0⟩).replied f ⟨.ok, []⟩
          else if (s.attn i).state = .clear then (write s).replied f ⟨.ok, []⟩
          else if c.mode = .host ∧ (level = 8 ∨ s.mask.val < level.val) then
            s.dispatched f ⟨.ok, []⟩
              (if s.serviceLevel < level then
                [.escalation i level (s.attn i).cls .host (some .stationSet)
                  ((List.finRange 64).countP fun j => decide (j = i ∨ (s.attn j).state = .escalated)) s.serviceLevel] else [])
              fun u => (write u).setAttn i ⟨.escalated, level, (s.attn i).cls⟩
          else ((write s).setAttn i ⟨.pending, level, (s.attn i).cls⟩).replied f ⟨.ok, []⟩))

/-- STATION-GET (R25): BAD-VALUE for an index outside 0..63; otherwise the record, the six state fields, the attention record
and the engine in whose scope the station is; nothing else changes. -/
def Obligations.StationGetReadsTheRecord : Prop :=
  ∀ (s : State) (tag station : Byte), s.processing = none →
    (63 < station.toNat → exec (.stationGet tag station) s = .next (s.replied ⟨0x0E, tag, [station]⟩ ⟨.badValue, []⟩)) ∧
    (∀ i : Fin 64, station = byteOf i.val →
      exec (.stationGet tag station) s = .next (s.replied ⟨0x0E, tag, [station]⟩ ⟨.ok,
        [(s.station i).config.flags, (s.station i).config.address, byteOf (s.station i).config.level.val,
          byteOf (s.station i).config.descriptor.val, byteOf (s.station i).config.retries.val, 0, 0, 0,
          (s.station i).health.code, byteOf (s.station i).failCount.val, sideCode (s.station i).line,
          (s.station i).last.toByte] ++ stampBytes (s.station i).lastContact ++
        [claimCode (s.station i).inTransaction, (s.attn i).state.code, byteOf (s.attn i).level.val,
          byteOf (s.attn i).cls.val, claimCode (some (engineFor s.arrangement (s.station i).config.home))]⟩))

/-- ARRANGE (R34, R35): its checks in order; accepted, it writes the arrangement and renews every station, and a change of
arrangement discards both demand queues, Engine A's first, each entry with its DEMAND-RESULT. Nothing else changes. -/
def Obligations.ArrangeRenewsTheStations : Prop :=
  ∀ (s : State) (tag arr : Byte), s.processing = none →
    let f : Frame := ⟨0x07, tag, [arr]⟩
    let discard : Engine → Demand → Notice := fun e q =>
      .demandResult q.tag e q.station q.kind .discarded 0 (s.station q.station).last []
    (1 < arr.toNat → exec (.arrange tag arr) s = .next (s.replied f ⟨.badValue, []⟩)) ∧
    (∀ x : Arrangement, arr = x.code →
      (s.engineA.run ≠ .stopped ∨ s.engineB.run ≠ .stopped →
        exec (.arrange tag arr) s = .next (s.replied f ⟨.lineRunning, []⟩)) ∧
      (s.engineA.run = .stopped → s.engineB.run = .stopped →
        ((x = .paired ∧ ∃ i j : Fin 64, i ≠ j ∧ (s.station i).config.enabled = true ∧ (s.station j).config.enabled = true ∧
            (s.station i).config.address = (s.station j).config.address) →
          exec (.arrange tag arr) s = .next (s.replied f ⟨.duplicateAddress, []⟩)) ∧
        (¬ (x = .paired ∧ ∃ i j : Fin 64, i ≠ j ∧ (s.station i).config.enabled = true ∧
            (s.station j).config.enabled = true ∧ (s.station i).config.address = (s.station j).config.address) →
          exec (.arrange tag arr) s = .next (s.dispatched f ⟨.ok, []⟩
            (if x = s.arrangement then [] else
              s.engineA.demands.map (discard .a) ++ s.engineB.demands.map (discard .b))
            fun u => { u with
              arrangement := x
              stations := u.stations.map fun st => { st with line := st.config.home, failCount := 0, health := .online }
              engineA := { u.engineA with demands := if x = s.arrangement then u.engineA.demands else [] }
              engineB := { u.engineB with demands := if x = s.arrangement then u.engineB.demands else [] } }))))

/-! ### Timetables (chapter 3) -/

/-- SLOT-SET (R39): BAD-VALUE for a field out of its range in R37, which for an ATTENTION slot are the four common ones;
otherwise the record is written whole into the engine's shadow bank, and nothing else changes. -/
def Obligations.SlotSetWritesTheShadowBank : Prop :=
  ∀ (s : State) (tag engine slot kind : Byte) (offset : Word) (divisor phase station request : Byte) (point : Word)
    (count pair wordOffset flipAfter : Byte) (f : Frame), s.processing = none →
    let c := Instr.slotSet tag engine slot kind offset divisor phase station request point count pair wordOffset flipAfter
    requestFrame c = some f →
    let write : Engine → Fin 128 → Slot → State := fun e n sl => s.withEngine e fun en =>
      match en.active with
      | .x => { en with bankY := { en.bankY with slots := en.bankY.slots.set n sl } }
      | .y => { en with bankX := { en.bankX with slots := en.bankX.slots.set n sl } }
    let divisors : List Nat := [1, 2, 4, 8, 16, 32, 64, 128]
    (1 < engine.toNat ∨ 127 < slot.toNat ∨ 1 < kind.toNat ∨ divisor.toNat ∉ divisors ∨ divisor.toNat ≤ phase.toNat ∨
        (kind = 1 ∧ (63 < station.toNat ∨ request = 0 ∨ 3 < request.toNat ∨ count = 0 ∨ 16 < count.toNat ∨
          15 < pair.toNat ∨ 127 < wordOffset.toNat ∨ 1 < flipAfter.toNat ∨
          (request ≠ 3 ∧ 128 < wordOffset.toNat + count.toNat))) →
      exec c s = .next (s.replied f ⟨.badValue, []⟩)) ∧
    (∀ (e : Engine) (n : Fin 128), engine = sideCode e → slot = byteOf n.val → divisor.toNat ∈ divisors →
        phase.toNat < divisor.toNat →
      (kind = 0 → exec c s = .next ((write e n ⟨offset, divisor, phase, none⟩).replied f ⟨.ok, []⟩)) ∧
      (∀ (st : Fin 64) (k : PollKind) (p : Fin 16) (w : Fin 128) (fl : Bool), kind = 1 → station = byteOf st.val →
          request = k.code → count ≠ 0 → count.toNat ≤ 16 → pair = byteOf p.val → wordOffset = byteOf w.val →
          flipAfter = (if fl then 1 else 0) → (k = .status ∨ w.val + count.toNat ≤ 128) →
        exec c s = .next
          ((write e n ⟨offset, divisor, phase, some ⟨st, k, point, count, p, w, fl⟩⟩).replied f ⟨.ok, []⟩)))

/-- SLOT-GET and BANK-HEADER-GET (R40): BAD-VALUE for an engine, bank or slot that does not exist; otherwise the record, with
zeros for the absent fields of an ATTENTION slot, whether the bank is active, and the swap-armed flag; nothing else changes. -/
def Obligations.BankRequestsReadEitherBank : Prop :=
  ∀ (s : State) (tag engine bank slot : Byte), s.processing = none →
    (1 < engine.toNat ∨ 1 < bank.toNat →
      exec (.bankHeaderGet tag engine bank) s = .next (s.replied ⟨0x12, tag, [engine, bank]⟩ ⟨.badValue, []⟩)) ∧
    (1 < engine.toNat ∨ 1 < bank.toNat ∨ 127 < slot.toNat →
      exec (.slotGet tag engine bank slot) s = .next (s.replied ⟨0x10, tag, [engine, bank, slot]⟩ ⟨.badValue, []⟩)) ∧
    ∀ (e : Engine) (b : BankId), engine = sideCode e → bank = b.code →
      let en := s.engine e
      let k : Bank := match b with
        | .x => en.bankX
        | .y => en.bankY
      let active : Byte := if en.active = b then 1 else 0
      exec (.bankHeaderGet tag engine bank) s = .next (s.replied ⟨0x12, tag, [engine, bank]⟩ ⟨.ok,
        wordBytes k.header.period ++ [byteOf k.header.slotCount.val] ++ wordBytes k.header.slack ++
          [active, if en.swapArmed then 1 else 0]⟩) ∧
      ∀ n : Fin 128, slot = byteOf n.val →
        exec (.slotGet tag engine bank slot) s = .next (s.replied ⟨0x10, tag, [engine, bank, slot]⟩ ⟨.ok,
          match k.slots[n].fixed with
          | none => [active, 0] ++ wordBytes k.slots[n].offset ++ [k.slots[n].divisor, k.slots[n].phase] ++
              List.replicate 11 0
          | some x => [active, 1] ++ wordBytes k.slots[n].offset ++ [k.slots[n].divisor, k.slots[n].phase,
              byteOf x.station.val, x.request.code] ++ wordBytes x.point ++ [x.count, byteOf x.pair.val,
              byteOf x.wordOffset.val, if x.flipAfter then 1 else 0, 0, 0, 0]⟩)

/-- BANK-HEADER-SET (R41), BANK-COPY (R42) and BANK-SWAP (R43): BAD-VALUE for a value out of range; otherwise the shadow bank's
header is written, the active bank is copied into the shadow bank, or the swap is armed or disarmed; nothing else changes. -/
def Obligations.ShadowBankAndSwapAreWritten : Prop :=
  ∀ (s : State) (tag engine slotCount action : Byte) (period slack : Word), s.processing = none →
    let fh : Frame := ⟨0x11, tag, [engine] ++ wordBytes period ++ [slotCount] ++ wordBytes slack⟩
    (1 < engine.toNat ∨ period.toNat < 10 ∨ 128 < slotCount.toNat →
      exec (.bankHeaderSet tag engine period slotCount slack) s = .next (s.replied fh ⟨.badValue, []⟩)) ∧
    (1 < engine.toNat → exec (.bankCopy tag engine) s = .next (s.replied ⟨0x13, tag, [engine]⟩ ⟨.badValue, []⟩)) ∧
    (1 < engine.toNat ∨ 1 < action.toNat →
      exec (.bankSwap tag engine action) s = .next (s.replied ⟨0x14, tag, [engine, action]⟩ ⟨.badValue, []⟩)) ∧
    ∀ e : Engine, engine = sideCode e →
      (∀ n : Fin 129, slotCount = byteOf n.val → 10 ≤ period.toNat →
        exec (.bankHeaderSet tag engine period slotCount slack) s = .next ((s.withEngine e fun en =>
          match en.active with
          | .x => { en with bankY := { en.bankY with header := ⟨period, n, slack⟩ } }
          | .y => { en with bankX := { en.bankX with header := ⟨period, n, slack⟩ } }).replied fh ⟨.ok, []⟩)) ∧
      exec (.bankCopy tag engine) s = .next ((s.withEngine e fun en =>
        match en.active with
        | .x => { en with bankY := en.bankX }
        | .y => { en with bankX := en.bankY }).replied ⟨0x13, tag, [engine]⟩ ⟨.ok, []⟩) ∧
      (action = 0 ∨ action = 1 →
        exec (.bankSwap tag engine action) s =
          .next ((s.withEngine e fun en => { en with swapArmed := decide (action = 1) }).replied
            ⟨0x14, tag, [engine, action]⟩ ⟨.ok, []⟩))

/-- LINE-STATUS (R62): BAD-VALUE for an engine that does not exist; otherwise the engine's state item by item, with subject
0xFF and source 0 while it holds no transaction; nothing else changes. -/
def Obligations.LineStatusReadsTheEngine : Prop :=
  ∀ (s : State) (tag engine : Byte), s.processing = none →
    (1 < engine.toNat → exec (.lineStatus tag engine) s = .next (s.replied ⟨0x0C, tag, [engine]⟩ ⟨.badValue, []⟩)) ∧
    ∀ e : Engine, engine = sideCode e →
      let en := s.engine e
      let m := en.summary
      let bit : Bool → Byte := fun b => if b then 1 else 0
      exec (.lineStatus tag engine) s = .next (s.replied ⟨0x0C, tag, [engine]⟩ ⟨.ok,
        (match en.run with
          | .stopped => [0, 0]
          | .running => [1, 0]
          | .stopping k => [2, k.code]) ++
        [en.activity.code, en.active.code, bit en.swapArmed] ++ wordBytes en.cycle ++ stampBytes en.cycleStart ++
        [byteOf en.next] ++
        (match en.activity with
          | .inTransaction t => [byteOf t.subject.val, t.source.code]
          | _ => [0xFF, 0]) ++
        [bit en.callPending, byteOf en.cursor.val, byteOf en.demands.length, bit m.present] ++ wordBytes m.cycle ++
        [m.bank.code] ++ countBytes m.tallies.executed ++ countBytes m.tallies.failed ++ countBytes m.tallies.idle ++
        countBytes m.tallies.passed ++ countBytes m.tallies.skippedLate ++ countBytes m.tallies.overrun ++
        countBytes m.tallies.refused⟩)

/-! ### Descriptors and pairs (chapters 6 and 7) -/

/-- DESCRIPTOR-SET (R104): BAD-VALUE, then DESCRIPTOR-BUSY while it is claimed; otherwise the ten fields are written and nothing
else changes. DESCRIPTOR-GET (R106): BAD-VALUE for an index outside 0..31; otherwise the ten fields, the claim, and the subject of
the claiming engine's transaction, 0xFF when unclaimed; nothing changes. -/
def Obligations.DescriptorIsWrittenAndRead : Prop :=
  (∀ (s : State) (tag descriptor kind : Byte) (point : Word) (per remaining pair wordOffset flags : Byte) (f : Frame),
    s.processing = none →
    let c := Instr.descriptorSet tag descriptor kind point per remaining pair wordOffset flags
    requestFrame c = some f →
    (31 < descriptor.toNat ∨ kind = 0 ∨ 2 < kind.toNat ∨ per = 0 ∨ 16 < per.toNat ∨ 15 < pair.toNat ∨
        127 < wordOffset.toNat ∨ 128 < wordOffset.toNat + per.toNat →
      exec c s = .next (s.replied f ⟨.badValue, []⟩)) ∧
    ∀ (d : Fin 32) (k : XferKind) (p : Fin 16) (w : Fin 128), descriptor = byteOf d.val → kind = k.code → per ≠ 0 →
      per.toNat ≤ 16 → pair = byteOf p.val → wordOffset = byteOf w.val → w.val + per.toNat ≤ 128 →
      (s.claim d ≠ none → exec c s = .next (s.replied f ⟨.descriptorBusy, []⟩)) ∧
      (s.claim d = none → exec c s = .next ((s.setDescriptor d {
        kind := k, point := point, perTransfer := per, remaining := remaining, pair := p, wordOffset := w
        advancePoint := flags.getLsbD 0, advanceOffset := flags.getLsbD 1, flipAtEnd := flags.getLsbD 2
        endAction := if flags.getLsbD 3 then .acknowledge else .escalate }).replied f ⟨.ok, []⟩))) ∧
  (∀ (s : State) (tag descriptor : Byte), s.processing = none →
    (31 < descriptor.toNat →
      exec (.descriptorGet tag descriptor) s = .next (s.replied ⟨0x16, tag, [descriptor]⟩ ⟨.badValue, []⟩)) ∧
    ∀ d : Fin 32, descriptor = byteOf d.val →
      let r := s.descriptor d
      let bit : Bool → Nat → Nat := fun b w => if b then w else 0
      exec (.descriptorGet tag descriptor) s = .next (s.replied ⟨0x16, tag, [descriptor]⟩ ⟨.ok,
        [r.kind.code] ++ wordBytes r.point ++ [r.perTransfer, r.remaining, byteOf r.pair.val, byteOf r.wordOffset.val,
          byteOf (bit r.advancePoint 1 + bit r.advanceOffset 2 + bit r.flipAtEnd 4 +
            bit (r.endAction = .acknowledge) 8)] ++ List.replicate 8 0 ++
          (match s.claim d with
            | none => [0, 0xFF]
            | some e => [if e = .a then 1 else 2, match (s.engine e).activity with
                | .inTransaction t => byteOf t.subject.val
                | _ => 0xFF])⟩))

/-- PAIR-SET (R116): BAD-VALUE, then LINE-RUNNING while either engine is not STOPPED; otherwise the pair is initialised in the
direction named. PAIR-RELEASE (R120) and PAIR-COMMIT (R121): BAD-VALUE, then WRONG-DIRECTION; otherwise the host half state is
RELEASED or COMMITTED. Nothing else changes. -/
def Obligations.PairIsInitialisedAndHandedBack : Prop :=
  (∀ (s : State) (tag pair direction : Byte), s.processing = none →
    let f : Frame := ⟨0x17, tag, [pair, direction]⟩
    (15 < pair.toNat ∨ 1 < direction.toNat → exec (.pairSet tag pair direction) s = .next (s.replied f ⟨.badValue, []⟩)) ∧
    ∀ (p : Fin 16) (d : Direction), pair = byteOf p.val → direction = d.code →
      (s.engineA.run ≠ .stopped ∨ s.engineB.run ≠ .stopped →
        exec (.pairSet tag pair direction) s = .next (s.replied f ⟨.lineRunning, []⟩)) ∧
      (s.engineA.run = .stopped → s.engineB.run = .stopped →
        exec (.pairSet tag pair direction) s = .next ((s.setPair p {
          direction := d, working := .zero, hostState := if d = .capture then .released else .editing
          sequence := 0, miss := false, flipStamp := 0, captureStamp := 0
          half0 := Vector.replicate 128 0, half1 := Vector.replicate 128 0 }).replied f ⟨.ok, []⟩))) ∧
  (∀ (s : State) (tag pair : Byte), s.processing = none →
    (15 < pair.toNat →
      exec (.pairRelease tag pair) s = .next (s.replied ⟨0x1B, tag, [pair]⟩ ⟨.badValue, []⟩) ∧
      exec (.pairCommit tag pair) s = .next (s.replied ⟨0x1C, tag, [pair]⟩ ⟨.badValue, []⟩)) ∧
    ∀ p : Fin 16, pair = byteOf p.val →
      ((s.pair p).direction = .output →
        exec (.pairRelease tag pair) s = .next (s.replied ⟨0x1B, tag, [pair]⟩ ⟨.wrongDirection, []⟩) ∧
        exec (.pairCommit tag pair) s =
          .next ((s.setPair p { s.pair p with hostState := .committed }).replied ⟨0x1C, tag, [pair]⟩ ⟨.ok, []⟩)) ∧
      ((s.pair p).direction = .capture →
        exec (.pairCommit tag pair) s = .next (s.replied ⟨0x1C, tag, [pair]⟩ ⟨.wrongDirection, []⟩) ∧
        exec (.pairRelease tag pair) s =
          .next ((s.setPair p { s.pair p with hostState := .released }).replied ⟨0x1B, tag, [pair]⟩ ⟨.ok, []⟩)))

/-- PAIR-GET (R117): BAD-VALUE for a pair outside 0..15; otherwise the record's eight items. PAIR-READ (R118): BAD-VALUE for a pair,
start or count out of range or a run past the half's end; otherwise the host half's index, state and sequence number and its words
from the start word. Nothing changes, the miss flag included. -/
def Obligations.PairRecordAndHostHalfAreRead : Prop :=
  (∀ (s : State) (tag pair : Byte), s.processing = none →
    (15 < pair.toNat → exec (.pairGet tag pair) s = .next (s.replied ⟨0x18, tag, [pair]⟩ ⟨.badValue, []⟩)) ∧
    ∀ p : Fin 16, pair = byteOf p.val →
      let r := s.pair p
      exec (.pairGet tag pair) s = .next (s.replied ⟨0x18, tag, [pair]⟩ ⟨.ok,
        [r.direction.code, r.working.code, r.working.other.code, r.hostState.code] ++ wordBytes r.sequence ++
          [if r.miss then 1 else 0] ++ stampBytes r.flipStamp ++ stampBytes r.captureStamp⟩)) ∧
  (∀ (s : State) (tag pair start count : Byte), s.processing = none →
    let f : Frame := ⟨0x19, tag, [pair, start, count]⟩
    (15 < pair.toNat ∨ 127 < start.toNat ∨ count = 0 ∨ 120 < count.toNat ∨ 128 < start.toNat + count.toNat →
      exec (.pairRead tag pair start count) s = .next (s.replied f ⟨.badValue, []⟩)) ∧
    ∀ p : Fin 16, pair = byteOf p.val → count ≠ 0 → count.toNat ≤ 120 → start.toNat + count.toNat ≤ 128 →
      let r := s.pair p
      let half : Vector Word 128 := match r.working with
        | .zero => r.half1
        | .one => r.half0
      exec (.pairRead tag pair start count) s = .next (s.replied f ⟨.ok,
        [r.working.other.code, r.hostState.code] ++ wordBytes r.sequence ++
          wordsBytes ((half.toList.drop start.toNat).take count.toNat)⟩))

/-- PAIR-WRITE (R119): BAD-LENGTH for a frame of no word or more than 120; then BAD-VALUE, WRONG-DIRECTION and PAIR-COMMITTED;
otherwise the words are written into the host half from the start word, and nothing else changes, the send half included. -/
def Obligations.PairWriteWritesTheHostHalf : Prop :=
  ∀ (s : State) (tag pair start : Byte) (words : List Word), s.processing = none → words.length ≤ 124 →
    let f : Frame := ⟨0x1A, tag, [pair, start] ++ wordsBytes words⟩
    let c := Instr.pairWrite tag pair start words
    (words = [] ∨ 120 < words.length → exec c s = .next (s.replied f ⟨.badLength, []⟩)) ∧
    (words ≠ [] → words.length ≤ 120 →
      (15 < pair.toNat ∨ 127 < start.toNat ∨ 128 < start.toNat + words.length →
        exec c s = .next (s.replied f ⟨.badValue, []⟩)) ∧
      ∀ p : Fin 16, pair = byteOf p.val → start.toNat ≤ 127 → start.toNat + words.length ≤ 128 →
        let r := s.pair p
        let put : Vector Word 128 → Vector Word 128 := fun v => Vector.ofFn fun i =>
          if start.toNat ≤ i.val then (words[i.val - start.toNat]?).getD v[i] else v[i]
        (r.direction = .capture → exec c s = .next (s.replied f ⟨.wrongDirection, []⟩)) ∧
        (r.direction = .output → r.hostState = .committed → exec c s = .next (s.replied f ⟨.pairCommitted, []⟩)) ∧
        (r.direction = .output → r.hostState ≠ .committed →
          exec c s = .next ((s.setPair p (match r.working with
            | .zero => { r with half1 := put r.half1 }
            | .one => { r with half0 := put r.half0 })).replied f ⟨.ok, []⟩)))

/-! ### Demands (chapter 4) -/

/-- DEMAND (R75): its six checks in order; otherwise the entry joins the tail of the engine's queue, the reply is ACCEPTED with
its position, and nothing else changes. -/
def Obligations.DemandJoinsTheQueue : Prop :=
  ∀ (s : State) (tag engine station kind : Byte) (point : Word) (count : Byte) (words : List Word) (f : Frame),
    s.processing = none → words.length ≤ 122 →
    let c := Instr.demand tag engine station kind point count words
    requestFrame c = some f →
    let fits := words.length = if kind = 2 then count.toNat else 0
    let inRange := engine.toNat ≤ 1 ∧ station.toNat ≤ 63 ∧
      ((kind = 1 ∨ kind = 2) ∧ 1 ≤ count.toNat ∧ count.toNat ≤ 16 ∨ kind = 3 ∧ count = 0)
    (¬ fits ∨ 16 < words.length → exec c s = .next (s.replied f ⟨.badLength, []⟩)) ∧
    (fits → words.length ≤ 16 → ¬ inRange → exec c s = .next (s.replied f ⟨.badValue, []⟩)) ∧
    (fits → inRange → ∀ (e : Engine) (i : Fin 64) (k : PollKind), engine = sideCode e → station = byteOf i.val →
        kind = k.code →
      exec c s = .next (
        if e = .b ∧ s.arrangement = .paired then s.replied f ⟨.wrongArrangement, []⟩
        else if engineFor s.arrangement (s.station i).config.home ≠ e then s.replied f ⟨.wrongLine, []⟩
        else if (s.station i).config.enabled = false then s.replied f ⟨.stationDisabled, []⟩
        else if 8 ≤ (s.engine e).demands.length then s.replied f ⟨.full, []⟩
        else (s.withEngine e fun en => { en with demands := en.demands ++ [⟨tag, i, k, point, count, words⟩] }).replied f
          ⟨.accepted, [byteOf ((s.engine e).demands.length + 1)]⟩))

/-! ### The service stack (chapter 8) -/

/-- TAKE (R136, R137): STACK-FULL at 4 entries; NONE when no station of the escalated set is above the service level; otherwise
the head of the set is HELD, keeping its level and class, and pushed with that level; the reply's items are as they stand after
the changes. Nothing else changes, and no notice is raised. -/
def Obligations.TakeHoldsTheHead : Prop :=
  ∀ (s : State) (tag : Byte), s.processing = none →
    let f : Frame := ⟨0x1E, tag, []⟩
    (4 ≤ s.stack.length → exec (.take tag) s = .next (s.replied f ⟨.stackFull, []⟩)) ∧
    (s.stack.length < 4 → (∀ i : Fin 64, (s.attn i).state = .escalated → (s.attn i).level ≤ s.serviceLevel) →
      exec (.take tag) s = .next (s.replied f ⟨.none, []⟩)) ∧
    ∀ i : Fin 64, s.stack.length < 4 → s.IsHead i → s.serviceLevel < (s.attn i).level →
      let st := s.station i
      let r := s.descriptor st.config.descriptor
      exec (.take tag) s = .next (
        ({ s.setAttn i { s.attn i with state := .held } with stack := ⟨i, (s.attn i).level⟩ :: s.stack } : State).replied f
          ⟨.ok, [byteOf i.val, byteOf (s.attn i).level.val, byteOf (s.attn i).cls.val,
              if st.config.mode = .descriptor then 1 else 0, st.health.code, sideCode st.line, st.last.toByte] ++
            stampBytes st.lastContact ++ [byteOf (s.stack.length + 1),
              byteOf ((List.finRange 64).countP fun j => decide (j ≠ i ∧ (s.attn j).state = .escalated))] ++
            (match st.config.mode with
              | .host => [0]
              | .descriptor => [1, byteOf st.config.descriptor.val, r.kind.code] ++ wordBytes r.point ++
                  [r.perTransfer, r.remaining, byteOf r.pair.val, byteOf r.wordOffset.val,
                    if r.endAction = .acknowledge then 1 else 0, claimCode (s.claim st.config.descriptor)])⟩)

/-- DONE (R139 to R141): STACK-EMPTY on an empty stack; otherwise the top entry is popped and its station's record becomes
ACKING, or CLEAR when the station is OFFLINE; one RE-OFFER names the head of the escalated set when its level is above the new
service level. Nothing else changes. -/
def Obligations.DoneGivesBackTheTop : Prop :=
  ∀ (s : State) (tag : Byte), s.processing = none →
    let f : Frame := ⟨0x1F, tag, []⟩
    (s.stack = [] → exec (.done tag) s = .next (s.replied f ⟨.stackEmpty, []⟩)) ∧
    ∀ (x : StackEntry) (rest : List StackEntry), s.stack = x :: rest →
      let record : Attention := if (s.station x.station).health = .offline then ⟨.clear, 0, 0⟩
        else { s.attn x.station with state := .acking }
      let after : State → State := fun u => { u.setAttn x.station record with stack := rest }
      let u := after s
      let count := (List.finRange 64).countP fun j => decide ((u.attn j).state = .escalated)
      let level : Fin 9 := match rest with
        | [] => 0
        | y :: _ => y.level
      let reply : Reply := ⟨.ok, [byteOf x.station.val, record.state.code, byteOf rest.length, byteOf level.val,
        byteOf count]⟩
      ((∀ j : Fin 64, (u.attn j).state = .escalated → (u.attn j).level ≤ level) →
        exec (.done tag) s = .next (u.replied f reply)) ∧
      ∀ j : Fin 64, u.IsHead j → level < (u.attn j).level →
        exec (.done tag) s = .next (s.dispatched f reply
          [.escalation j (u.attn j).level (u.attn j).cls (s.station j).config.mode none count level] after)

/-! ### The Image Store (chapter 10) -/

/-- STORE-SAVE (R162) and STORE-ERASE (R164): BAD-VALUE for a flag that is neither 0 nor 1, PROTECTED while STORE_WP is low, BUSY
while the controller is not IDLE; otherwise ACCEPTED, the erase of block 0 begins and the image state is INVALID. A save copies
the configuration with the active banks and the request's autostart flags. -/
def Obligations.StoreRequestsBeginTheErase : Prop :=
  ∀ (s : State) (tag a b : Byte), s.processing = none →
    let fs : Frame := ⟨0x20, tag, [a, b]⟩
    let fe : Frame := ⟨0x21, tag, []⟩
    let bank : EngineState → Bank := fun en => match en.active with
      | .x => en.bankX
      | .y => en.bankY
    let begin : StoreOp → State := fun op => { s with
      region := s.region.beginErase 0, store := .erasing op 0, imageState := .invalid }
    (1 < a.toNat ∨ 1 < b.toNat → exec (.storeSave tag a b) s = .next (s.replied fs ⟨.badValue, []⟩)) ∧
    (a.toNat ≤ 1 → b.toNat ≤ 1 → exec (.storeSave tag a b) s = .next (
      if s.storeWp = .low then s.replied fs ⟨.isProtected, []⟩
      else if s.store ≠ .idle then s.replied fs ⟨.busy, []⟩
      else (begin (.save {
        arrangement := s.arrangement, portA := s.portA.settings, portB := s.portB.settings, mask := s.mask
        demandLevel := s.demandLevel, enables := s.enables, autostartA := decide (a = 1), autostartB := decide (b = 1)
        headerA := (bank s.engineA).header, headerB := (bank s.engineB).header
        slotsA := (bank s.engineA).slots, slotsB := (bank s.engineB).slots
        directions := s.pairs.map fun p => p.direction, stations := s.stations.map fun st => st.config
        descriptors := s.descriptors })).replied fs ⟨.accepted, []⟩)) ∧
    exec (.storeErase tag) s = .next (
      if s.storeWp = .low then s.replied fe ⟨.isProtected, []⟩
      else if s.store ≠ .idle then s.replied fe ⟨.busy, []⟩
      else (begin .erase).replied fe ⟨.accepted, []⟩)

/-- STORE-CANCEL and STORE_WP (R165): NOT-RUNNING while the controller is IDLE; otherwise the operation in progress ends CANCELLED
with the controller's step, the image INVALID and the cause REQUEST. The pin going low ends it alike with the cause
WRITE-PROTECT; its level while the controller is IDLE and its return high change nothing but the level. MODEL'S CHOICES: that
STORE_WP_ASSERTED carries the level and so makes the return too (log entry 9), that it carries the straps' levels, which act on
nothing before the next reset (log entry 6), and that a cancel behind a completed marker program leaves the marker page as one cut
off, so that the region holds no image on any outcome but SAVED (log entry 21). -/
def Obligations.StoreCancelEndsTheOperation : Prop :=
  ∀ (s : State) (tag : Byte) (v l1 l0 : Level),
    let f : Frame := ⟨0x22, tag, []⟩
    let ended : State → State := fun u => { u with
      store := .idle, imageState := .invalid
      region := match s.store with
        | .marking _ _ true => u.region.beginProgram 0
        | _ => u.region }
    let isSave : Bool := match s.store with
      | .erasing .erase _ => false
      | _ => true
    let step : Byte := match s.store with
      | .programming _ _ _ _ => 2
      | .marking _ _ _ => 3
      | _ => 1
    (s.processing = none → s.store = .idle → exec (.storeCancel tag) s = .next (s.replied f ⟨.notRunning, []⟩)) ∧
    (s.processing = none → s.store ≠ .idle → exec (.storeCancel tag) s = .next (s.dispatched f ⟨.ok, []⟩
      [.storeResult isSave (.cancelled step false) .invalid] ended)) ∧
    exec (.storeWpAsserted ⟨v, l1, l0⟩) s = .next (
      if v = .low ∧ s.storeWp = .high ∧ s.store ≠ .idle then
        (ended { s with storeWp := .low, lr1 := l1, lr0 := l0 }).raise (.storeResult isSave (.cancelled step true) .invalid)
      else { s with storeWp := v, lr1 := l1, lr0 := l0 }) ∧
    ∀ r : Region, (r.beginProgram 0).holdsMarker = false

/-- The erase step (R163, R164): a block that read back erased reads 0xFF in every byte, and the next erase begins; behind block 3 a
save programs page 1 and an erase ends ERASED; a block that read back otherwise, or an erase that has not completed in its 60 ms,
ends the operation ERASE-FAILED with the block named. Outside ERASING the two events change nothing (log entry 3). A block whose
erase has begun and not run to its end has no stated content (log entry 8); every other byte of the region is kept. -/
def Obligations.EraseStepTakesTheBlocksInOrder : Prop :=
  ∀ s : State, ((∀ op k, s.store ≠ .erasing op k) →
      exec .eraseTimeout s = .next s ∧ ∀ erased, exec (.blockEraseComplete erased) s = .next s) ∧
    ∀ (op : StoreOp) (k : Fin 4), s.store = .erasing op k →
    let cleared : Region := s.region.setErased k
    let isSave : Bool := match op with
      | .save _ => true
      | .erase => false
    let failed := ({ s with store := .idle, imageState := .invalid } : State).raise
      (.storeResult isSave (.eraseFailed k) .invalid)
    exec .eraseTimeout s = .next failed ∧ exec (.blockEraseComplete false) s = .next failed ∧
    (k ≠ 3 → exec (.blockEraseComplete true) s =
      .next { s with region := cleared.beginErase (k + 1), store := .erasing op (k + 1) }) ∧
    (∀ m, k = 3 → op = .save m → exec (.blockEraseComplete true) s =
      .next { s with region := cleared.beginProgram 1, store := .programming m 1 false false }) ∧
    (k = 3 → op = .erase → exec (.blockEraseComplete true) s =
      .next (({ s with region := cleared, store := .idle, imageState := .invalid } : State).raise
        (.storeResult false .erased .invalid))) ∧
    (∀ a : Nat, cleared.read a = if k.val * 4096 ≤ a ∧ a < k.val * 4096 + 4096 then 0xFF else s.region.read a) ∧
    (∀ page : Nat, cleared.isTorn page = (s.region.isTorn page && decide (page / 16 ≠ k.val))) ∧
    ∀ (r : Region) (b : Fin 4),
      (∀ page : Nat, page < 64 → (r.beginErase b).isTorn page = (r.isTorn page || decide (page / 16 = b.val))) ∧
      ∀ a : Nat, (r.beginErase b).isTorn (a / 256) = false → (r.beginErase b).read a = r.read a

/-- The program and mark steps (R163): a page that verifies lets the next begin, page 21 the marker page, and the marker page ends
the save SAVED with the image VALID; a page that reads back different or has not completed in its 4 ms is programmed once more,
and at the second failure ends the save PROGRAM-FAILED with the page named; a program that has completed with its verify not yet
taken keeps its step (R167), and its time limit no longer acts. Outside the two steps the events change nothing (log entry 3).
MODEL'S CHOICES: that PAGE_PROGRAM_COMPLETE tells whether the verify was taken with it (log entry 21), and that a page whose program
has begun and not run to its end, or has failed, has no stated content (log entry 8). Every other byte of the region is kept. -/
def Obligations.ProgramStepTakesThePagesInOrder : Prop :=
  ∀ s : State,
    (s.store = .idle ∨ (∃ op k, s.store = .erasing op k) →
      exec .programTimeout s = .next s ∧ ∀ how, exec (.pageProgramComplete how) s = .next s) ∧
    ∀ (m : Image) (page : Nat) (again complete : Bool),
    (s.store = .programming m page again complete ∧ 1 ≤ page ∧ page ≤ 21 ∨ s.store = .marking m again complete ∧ page = 0) →
    let done : Region := s.region.programmed page (m.pageBytes page)
    let retry := s.region.beginProgram page
    let stepOf : Bool → Bool → Store := fun g c => if page = 0 then .marking m g c else .programming m page g c
    exec (.pageProgramComplete .verified) s = .next (
      if page = 0 then
        ({ s with region := done, store := .idle, imageState := .valid } : State).raise (.storeResult true .saved .valid)
      else if page = 21 then { s with region := done.beginProgram 0, store := .marking m false false }
      else { s with region := done.beginProgram (page + 1), store := .programming m (page + 1) false false }) ∧
    exec (.pageProgramComplete .differs) s = .next (
      if again then ({ s with region := retry, store := .idle, imageState := .invalid } : State).raise
        (.storeResult true (.programFailed page) .invalid)
      else { s with region := retry, store := stepOf true false }) ∧
    (complete = false → exec .programTimeout s = exec (.pageProgramComplete .differs) s) ∧
    (complete = true → exec .programTimeout s = .next s) ∧
    exec (.pageProgramComplete .unverified) s = .next { s with region := done, store := stepOf again true } ∧
    (∀ k : Nat, k < 256 → done.read (page * 256 + k) = (m.pageBytes page)[k]?.getD 0xFF) ∧
    (∀ a : Nat, a / 256 ≠ page → done.read a = s.region.read a) ∧
    (∀ q : Nat, done.isTorn q = (s.region.isTorn q && decide (q ≠ page))) ∧
    ∀ (r : Region) (p : Nat),
      (∀ q : Nat, q < 64 → (r.beginProgram p).isTorn q = (r.isTorn q || decide (q = p))) ∧
      ∀ a : Nat, (r.beginProgram p).isTorn (a / 256) = false → (r.beginProgram p).read a = r.read a

/-! ### Reset and start-up (chapters 9 and 10) -/

/-- A reset by any of its three causes on a region that holds no image start-up would apply (R159, R168): every block is at its
reset value, given here as the spec's numbers (R1, R19, R20, R36, R37, R44, R82, R84, R98, R102, R103, R115, R134), each line monitor
is set by the level on RXD (R16), the straps are sampled (R145), the region is kept (R167), and
STARTED is the first frame sent (R170). MODEL'S CHOICES: POWER_ON and RESET_PIN carry the levels of the straps, RESTART samples
those of the state, and STORE_WP keeps its level (log entry 6); an absent summary has cycle number 0 and bank X (log entry 13); the
waiting commands are kept (log entry 19); and a receiver that waited for HL_RXD to return high is HUNTING too (log entry 24).
`State.reset` is the first power-on, with the pins at the levels of log entry 6 and an erased region (log entry 7). -/
def Obligations.ResetWithoutAnImage : Prop :=
  let port : Level → Port := fun rxd => {
    settings := { rate := 3, parity := .even, stopBits := .one, replyTimeout := 1, gap := 3 }
    phase := .idle, waiting := none, monitor := if rxd = .high then .armed else .waitHigh, rxd := rxd, rxChar := none
    rxBreak := false, interval := none, shifter := none }
  let bank : Bank := {
    header := { period := 1000, slotCount := 0, slack := 0 }
    slots := Vector.replicate 128 { offset := 0, divisor := 1, phase := 0, fixed := none } }
  let none7 : Tallies := ⟨0, 0, 0, 0, 0, 0, 0⟩
  let engine : EngineState := {
    bankX := bank, bankY := bank, active := .x, swapArmed := false, run := .stopped, activity := .none, cycle := 0
    cycleStart := 0, timer := none, next := 0, started := false, tallies := none7, summary := ⟨false, 0, .x, none7⟩
    demands := [], callPending := false, cursor := 0, visited := [] }
  let station : Fin 64 → Station := fun i => {
    config := {
      enabled := false, address := BitVec.ofNat 8 (i.val + 1), home := .a, alternate := .none, level := 0, mode := .host
      descriptor := 0, retries := 1, switchOnRetry := false, sweepMember := false }
    health := .online, failCount := 0, line := .a, last := ⟨0, false, false⟩, lastContact := 0, inTransaction := none }
  let pair : Direction → Pair := fun d => {
    direction := d, working := .zero, hostState := if d = .capture then .released else .editing, sequence := 0, miss := false
    flipStamp := 0, captureStamp := 0, half0 := Vector.replicate 128 0, half1 := Vector.replicate 128 0 }
  let power : State := {
    pending := [], lr1 := .low, lr0 := .low, storeWp := .high, time := 0, linkRate := ⟨.low, .low⟩, rx := .hunting
    processing := none, held := none, replySlot := none
    tx := some ⟨.notice ⟨.started .powerOn .noImage .invalid .independent false false, 0⟩, 0⟩, notices := []
    overrun := false, arrangement := .independent, mask := 0, demandLevel := 3, enables := ⟨true, true, true, true, true⟩
    stations := Vector.ofFn station, attention := Vector.replicate 64 ⟨.clear, 0, 0⟩, stack := []
    descriptors := Vector.replicate 32 {
      kind := .read, point := 0, perTransfer := 1, remaining := 0, pair := 0, wordOffset := 0, advancePoint := false
      advanceOffset := false, endAction := .escalate, flipAtEnd := false }
    claims := Vector.replicate 32 none, pairs := Vector.replicate 16 (pair .capture), portA := port .high
    portB := port .high, engineA := engine, engineB := engine, region := ⟨[], Vector.replicate 64 false, 0⟩
    imageState := .invalid, startSource := .noImage, store := .idle }
  State.reset = power ∧ EngineState.reset = engine ∧ (∀ rxd, Port.reset rxd = port rxd) ∧ (∀ d, Pair.init d = pair d) ∧
  ∀ (s : State) (l1 l0 : Level) (source : StartSource) (tag : Byte) (r : Frame) (us : Nat), s.region.check = (source, none) →
    let after : ResetCause → Level → Level → State := fun cause x1 x0 => { power with
      pending := s.pending, lr1 := x1, lr0 := x0, storeWp := s.storeWp, linkRate := ⟨x1, x0⟩
      portA := port s.portA.rxd, portB := port s.portB.rxd, region := s.region, startSource := source
      tx := some ⟨.notice ⟨.started cause source .invalid .independent false false, 0⟩, 0⟩ }
    exec (.powerOn l1 l0) s = .next (after .powerOn l1 l0) ∧
    exec (.resetPin l1 l0) s = .next (after .resetPin l1 l0) ∧
    (s.tx = some ⟨.reply r, us⟩ → s.processing = some ⟨0x03, tag, []⟩ →
      exec .replySent s = .next (after .restart s.lr1 s.lr0))

/-- The start-up check (R168, steps 1 to 4): no marker gives DEFAULTS-NO-IMAGE; a marker with a check that differs from the one
computed over pages 1 to 21 gives DEFAULTS-BAD-CHECK, and so does, under a good check, an item outside its range or two enabled
stations with one address in one scope of the stored arrangement; otherwise the source is IMAGE, with an image that is in range.
Offsets are those of pages 1 to 21 (R160, 11.6). A byte of a torn page is a free value (log entry 8), for every value of which this
holds. -/
def Obligations.StartUpChecksTheRegion : Prop :=
  ∀ r : Region,
    let holds := r.isTorn 0 = false ∧ r.bytes 0 4 = [0x5A, 0xA5, 0xC3, 0x3C]
    let pages : List Byte := r.bytes 256 5376
    let matching := r.bytes 4 2 = wordBytes (frameCheck pages)
    let at_ : Nat → Nat := fun k => (pages.getD k 0).toNat
    let wordAt : Nat → Nat := fun k => at_ k * 256 + at_ (k + 1)
    let portBad : Nat → Prop := fun k => 8 < at_ k ∨ 2 < at_ (k + 1) ∨ at_ (k + 2) = 0 ∨ 2 < at_ (k + 2) ∨ 3 < at_ (k + 3) ∨
      at_ (k + 4) = 0 ∨ 16 < at_ (k + 4)
    let headerBad : Nat → Prop := fun k => wordAt k < 10 ∨ 128 < at_ (k + 2)
    let stationBad : Nat → Prop := fun k => at_ (k + 1) = 0 ∨ 127 < at_ (k + 1) ∨ 7 < at_ (k + 2) ∨ 31 < at_ (k + 3) ∨
      3 < at_ (k + 4)
    let fixedBad : Nat → Prop := fun k => 63 < at_ (k + 5) ∨ at_ (k + 6) = 0 ∨ 3 < at_ (k + 6) ∨ at_ (k + 9) = 0 ∨
      16 < at_ (k + 9) ∨ 15 < at_ (k + 10) ∨ 127 < at_ (k + 11) ∨ 1 < at_ (k + 12) ∨
      at_ (k + 6) ≠ 3 ∧ 128 < at_ (k + 11) + at_ (k + 9)
    let slotBad : Nat → Prop := fun k => 1 < at_ k ∨ at_ (k + 3) ∉ [1, 2, 4, 8, 16, 32, 64, 128] ∨
      at_ (k + 3) ≤ at_ (k + 4) ∨ at_ k = 1 ∧ fixedBad k
    let descriptorBad : Nat → Prop := fun k => at_ k = 0 ∨ 2 < at_ k ∨ at_ (k + 3) = 0 ∨ 16 < at_ (k + 3) ∨ 15 < at_ (k + 5) ∨
      127 < at_ (k + 6) ∨ 128 < at_ (k + 6) + at_ (k + 3)
    let flagAt : Fin 64 → Nat → Bool := fun i n => (pages.getD (256 + 8 * i.val) 0).getLsbD n
    let clashes : Prop := ∃ i j : Fin 64, i ≠ j ∧ flagAt i 0 = true ∧ flagAt j 0 = true ∧
      at_ (256 + 8 * i.val + 1) = at_ (256 + 8 * j.val + 1) ∧ (at_ 0 = 0 → flagAt i 1 = flagAt j 1)
    let bad : Prop := 1 < at_ 0 ∨ portBad 1 ∨ portBad 6 ∨ 7 < at_ 11 ∨ 7 < at_ 12 ∨ 1 < at_ 14 ∨ 1 < at_ 15 ∨ headerBad 16 ∨
      headerBad 21 ∨ (∃ p : Fin 16, 1 < at_ (26 + p.val)) ∨ (∃ i : Fin 64, stationBad (256 + 8 * i.val)) ∨
      (∃ n : Fin 128, slotBad (768 + 16 * n.val) ∨ slotBad (2816 + 16 * n.val)) ∨
      (∃ d : Fin 32, descriptorBad (4864 + 16 * d.val)) ∨ clashes
    (∀ base n : Nat, r.bytes base n = (List.range n).map fun k => r.read (base + k)) ∧
    (∀ p : Fin 64, r.isTorn p.val = r.torn[p]) ∧
    (∀ a : Nat, r.isTorn (a / 256) = false → r.read a = match r.cells.find? fun c => decide (c.1 = a) with
      | some c => c.2
      | none => 0xFF) ∧
    (¬ holds → r.check = (.noImage, none)) ∧ (holds → ¬ matching → r.check = (.badCheck, none)) ∧
    (holds → matching → bad → r.check = (.badCheck, none)) ∧
    (holds → matching → ¬ bad → ∃ m, Image.ofPages pages = some m ∧ m.InRange ∧ r.check = (.image, some m))

/-- A reset by any of its three causes on a region with a valid image (R169, R170): the image's settings, records, directions,
descriptors and timetables are applied over reset values, in both banks of each engine with bank X active. An engine marked for
autostart, Engine A first (MODEL'S CHOICE, log entry 22) and Engine B never in PAIRED, is started as an accepted LINE-START starts
it and takes slot 0; nothing else differs from reset. STARTED, with the engines started, is the first frame, and no notice is
queued behind it. MODEL'S CHOICES: POWER_ON and RESET_PIN carry the levels of the straps, RESTART samples those of the state, and
STORE_WP keeps its level (log entry 6); an absent summary has cycle number 0 and bank X (log entry 13); the waiting commands are
kept (log entry 19); and a receiver that waited for HL_RXD to return high is HUNTING too (log entry 24). -/
def Obligations.ResetAppliesTheImage : Prop :=
  ∀ (s : State) (l1 l0 : Level) (m : Image) (tag : Byte) (r : Frame) (us : Nat), s.region.check = (.image, some m) →
    let startsB : Bool := m.autostartB && decide (m.arrangement = .independent)
    let header : Engine → BankHeader := fun e => match e with
      | .a => m.headerA
      | .b => m.headerB
    let bank : Engine → Bank := fun e => match e with
      | .a => ⟨m.headerA, m.slotsA⟩
      | .b => ⟨m.headerB, m.slotsB⟩
    let applied : State := { State.reset with
      pending := s.pending, lr1 := l1, lr0 := l0, storeWp := s.storeWp, linkRate := ⟨l1, l0⟩
      arrangement := m.arrangement, mask := m.mask, demandLevel := m.demandLevel, enables := m.enables
      stations := m.stations.map fun c => { config := c, health := .online, failCount := 0, line := c.home
                                            last := ⟨0, false, false⟩, lastContact := 0, inTransaction := none }
      descriptors := m.descriptors, pairs := m.directions.map Pair.init
      portA := { Port.reset s.portA.rxd with settings := m.portA }
      portB := { Port.reset s.portB.rxd with settings := m.portB }
      engineA := { EngineState.reset with bankX := bank .a, bankY := bank .a }
      engineB := { EngineState.reset with bankX := bank .b, bankY := bank .b }
      region := s.region, imageState := .valid, startSource := .image, tx := none }
    let start : Engine → State → State := fun e u =>
      (u.withEngine e fun en => { en with run := .running, timer := some ⟨(header e).period, 0⟩ }).takeSlots e
    let first : State := if m.autostartA then start .a applied else applied
    let running : State := if startsB then start .b first else first
    let outcome : Instr → ResetCause → Prop := fun c cause => ∃ t, exec c s = .next t ∧
      t = { running with
        tx := some ⟨.notice ⟨.started cause .image .valid m.arrangement m.autostartA startsB, 0⟩, 0⟩ } ∧
      t.notices = [] ∧ t.replySlot = none ∧ t.overrun = false ∧ t.time = 0 ∧
      t.engineA.run = (if m.autostartA then .running else .stopped) ∧
      t.engineB.run = (if startsB then .running else .stopped) ∧
      (∀ e : Engine, (t.engine e).bankX = bank e ∧ (t.engine e).bankY = bank e ∧ (t.engine e).active = .x ∧
        (t.engine e).swapArmed = false ∧ (t.engine e).cycle = 0 ∧ (t.engine e).demands = [] ∧
        (t.engine e).callPending = false ∧ (t.engine e).summary = ⟨false, 0, .x, ⟨0, 0, 0, 0, 0, 0, 0⟩⟩ ∧
        ((t.engine e).run = .running → (t.engine e).timer = some ⟨(header e).period, 0⟩)) ∧
      t.arrangement = m.arrangement ∧ t.mask = m.mask ∧ t.demandLevel = m.demandLevel ∧ t.enables = m.enables ∧
      t.portA.settings = m.portA ∧ t.portB.settings = m.portB ∧
      (∀ i : Fin 64, (t.station i).config = m.stations[i] ∧ (t.station i).line = m.stations[i].home ∧
        (t.station i).health = .online ∧ (t.station i).failCount = 0 ∧ t.attn i = ⟨.clear, 0, 0⟩) ∧
      t.descriptors = m.descriptors ∧ (∀ d : Fin 32, t.claim d = none) ∧ t.pairs = m.directions.map Pair.init ∧
      t.stack = [] ∧ t.region = s.region ∧ t.imageState = .valid ∧ t.startSource = .image
    outcome (.powerOn l1 l0) .powerOn ∧ outcome (.resetPin l1 l0) .resetPin ∧
    (s.tx = some ⟨.reply r, us⟩ → s.processing = some ⟨0x03, tag, []⟩ → s.lr1 = l1 → s.lr0 = l0 → outcome .replySent .restart)

/-- A saved image comes back: on any region, the pages that a save programs are read back by the start-up check as that
configuration, when the configuration is one the part can hold (R160, R168). The pages hold what R160 and 11.6 lay out, in the
encodings of 11.3: the marker and the check in page 0, the settings in page 1, and behind them the stations, Engine A's slots,
Engine B's slots and the descriptors in index order, unused bytes 0 (R171). -/
def Obligations.SavedImageComesBack : Prop :=
  (∀ m : Image,
    let bit : Bool → Byte := fun b => if b then 1 else 0
    let parity : Parity → Byte := fun p => match p with
      | .none => 0
      | .even => 1
      | .odd => 2
    let port : PortSettings → List Byte := fun c =>
      [BitVec.ofNat 8 c.rate.val, parity c.parity, if c.stopBits = .two then 2 else 1, BitVec.ofNat 8 c.replyTimeout.val, c.gap]
    let header : BankHeader → List Byte := fun h =>
      wordBytes h.period ++ [BitVec.ofNat 8 h.slotCount.val] ++ wordBytes h.slack
    let station : StationConfig → List Byte := fun c =>
      [c.flags, c.address, BitVec.ofNat 8 c.level.val, BitVec.ofNat 8 c.descriptor.val, BitVec.ofNat 8 c.retries.val, 0, 0, 0]
    let pollCode : PollKind → Byte := fun k => match k with
      | .read => 1
      | .write => 2
      | .status => 3
    let slot : Slot → List Byte := fun x =>
      [bit x.fixed.isSome] ++ wordBytes x.offset ++ [x.divisor, x.phase] ++ (match x.fixed with
        | none => [0, 0, 0, 0, 0, 0, 0, 0]
        | some f => [BitVec.ofNat 8 f.station.val, pollCode f.request] ++ wordBytes f.point ++
            [f.count, BitVec.ofNat 8 f.pair.val, BitVec.ofNat 8 f.wordOffset.val, bit f.flipAfter]) ++ [0, 0, 0]
    let descriptor : Descriptor → List Byte := fun d =>
      [if d.kind = .write then 2 else 1] ++ wordBytes d.point ++ [d.perTransfer, d.remaining, BitVec.ofNat 8 d.pair.val,
        BitVec.ofNat 8 d.wordOffset.val, BitVec.ofNat 8 ((if d.advancePoint then 1 else 0) +
          (if d.advanceOffset then 2 else 0) + (if d.flipAtEnd then 4 else 0) + (if d.endAction = .acknowledge then 8 else 0)),
        0, 0, 0, 0, 0, 0, 0, 0]
    let pages : List Byte :=
      ([bit (decide (m.arrangement = .paired))] ++ port m.portA ++ port m.portB ++
        [BitVec.ofNat 8 m.mask.val, BitVec.ofNat 8 m.demandLevel.val, m.enables.toByte, bit m.autostartA, bit m.autostartB] ++
        header m.headerA ++ header m.headerB ++ m.directions.toList.map (fun d => bit (decide (d = .output))) ++
        List.replicate 214 0) ++
      m.stations.toList.flatMap station ++ m.slotsA.toList.flatMap slot ++ m.slotsB.toList.flatMap slot ++
      m.descriptors.toList.flatMap descriptor
    pages.length = 5376 ∧ m.pageBytes 0 = [0x5A, 0xA5, 0xC3, 0x3C] ++ wordBytes (frameCheck pages) ∧
    ∀ p : Nat, m.pageBytes (p + 1) = (pages.drop (p * 256)).take 256) ∧
  ∀ (m : Image) (r : Region),
    let slotInRange : Slot → Prop := fun sl => sl.divisor.toNat ∈ [1, 2, 4, 8, 16, 32, 64, 128] ∧
      sl.phase.toNat < sl.divisor.toNat ∧ ∀ x, sl.fixed = some x → 1 ≤ x.count.toNat ∧ x.count.toNat ≤ 16 ∧
        (x.request = .status ∨ x.wordOffset.val + x.count.toNat ≤ 128)
    (1 ≤ m.portA.gap.toNat ∧ m.portA.gap.toNat ≤ 16) → (1 ≤ m.portB.gap.toNat ∧ m.portB.gap.toNat ≤ 16) →
    10 ≤ m.headerA.period.toNat → 10 ≤ m.headerB.period.toNat →
    (∀ i : Fin 64, 1 ≤ m.stations[i].address.toNat ∧ m.stations[i].address.toNat ≤ 127) →
    (∀ i : Fin 128, slotInRange m.slotsA[i] ∧ slotInRange m.slotsB[i]) →
    (∀ d : Fin 32, 1 ≤ m.descriptors[d].perTransfer.toNat ∧ m.descriptors[d].perTransfer.toNat ≤ 16 ∧
      m.descriptors[d].wordOffset.val + m.descriptors[d].perTransfer.toNat ≤ 128) →
    (∀ i j : Fin 64, i ≠ j → m.stations[i].enabled = true → m.stations[j].enabled = true →
      m.stations[i].address = m.stations[j].address →
      m.arrangement = .independent ∧ m.stations[i].home ≠ m.stations[j].home) →
    ((List.range 22).foldl (fun u p => u.programmed p (m.pageBytes p)) r).check = (.image, some m)

/-! ### Running the engines (chapters 3 and 4) -/

/-- LINE-START (R45): BAD-VALUE, WRONG-ARRANGEMENT for Engine B in PAIRED, BUSY; accepted, the armed swap is made, the cycle number
is 0, the engine is RUNNING with its summary absent, a cycle starts at this moment and slots are taken from slot 0 on; with no
slots the engine is in CYCLE-WAIT. MODEL'S CHOICE (log entry 13): the absent summary has cycle number 0, bank X and counts of 0; the
spec says of LINE-START only that it makes the summary absent (R60). -/
def Obligations.LineStartStartsTheEngine : Prop :=
  ∀ (s : State) (tag engine : Byte), s.processing = none →
    let f : Frame := ⟨0x0A, tag, [engine]⟩
    (1 < engine.toNat → exec (.lineStart tag engine) s = .next (s.replied f ⟨.badValue, []⟩)) ∧
    ∀ e : Engine, engine = sideCode e →
      (e = .b → s.arrangement = .paired → exec (.lineStart tag engine) s = .next (s.replied f ⟨.wrongArrangement, []⟩)) ∧
      (¬ (e = .b ∧ s.arrangement = .paired) → (s.engine e).run ≠ .stopped →
        exec (.lineStart tag engine) s = .next (s.replied f ⟨.busy, []⟩)) ∧
      (¬ (e = .b ∧ s.arrangement = .paired) → (s.engine e).run = .stopped →
        let active := if (s.engine e).swapArmed then (s.engine e).active.other else (s.engine e).active
        let bank : Bank := match active with
          | .x => (s.engine e).bankX
          | .y => (s.engine e).bankY
        let opened : EngineState := { s.engine e with
          active := active, swapArmed := false, run := .running, cycle := 0, cycleStart := s.time
          timer := some ⟨bank.header.period, 0⟩, next := 0, started := false, tallies := ⟨0, 0, 0, 0, 0, 0, 0⟩
          summary := ⟨false, 0, .x, ⟨0, 0, 0, 0, 0, 0, 0⟩⟩ }
        (bank.header.slotCount = 0 → exec (.lineStart tag engine) s =
          .next ((s.withEngine e fun _ => { opened with activity := .cycleWait }).replied f ⟨.ok, []⟩)) ∧
        ∃ t, exec (.lineStart tag engine) s = .next t ∧ s.HoldsReply t f ⟨.ok, []⟩ ∧
          t = ((((s.inDispatch f).withEngine e fun _ => opened).takeSlots e).placeReply f ⟨.ok, []⟩ s.tx) ∧
          (t.engine e).run = .running ∧ (t.engine e).cycle = 0 ∧ (t.engine e).cycleStart = s.time ∧
          (t.engine e).timer = some ⟨bank.header.period, 0⟩ ∧ (t.engine e).active = active ∧
          (t.engine e).swapArmed = false ∧ (t.engine e).bankX = (s.engine e).bankX ∧
          (t.engine e).bankY = (s.engine e).bankY ∧ t.engine e.other = s.engine e.other ∧ t.stack = s.stack ∧
          t.pairs = s.pairs ∧ t.descriptors = s.descriptors ∧ t.arrangement = s.arrangement ∧ t.time = s.time)

/-- LINE-STOP (R46): BAD-VALUE; NOT-RUNNING; ALREADY-STOPPING for a mode not stronger than the pending one; otherwise the mode is
set. AFTER-CYCLE goes on (R47); AFTER-TRANSACTION goes on while a transaction is in flight and stops at once otherwise (R48);
ABORT with none in flight stops at once and discards the demands (R49). A stop is R50's changes with its LINE-STATE notice, and
keeps the rest, the next slot index included, while the mark that its slot has started goes (MODEL'S CHOICE, log entry 12). -/
def Obligations.LineStopFollowsTheMode : Prop :=
  ∀ (s : State) (tag engine mode : Byte), s.processing = none →
    let f : Frame := ⟨0x0B, tag, [engine, mode]⟩
    (1 < engine.toNat ∨ mode = 0 ∨ 3 < mode.toNat →
      exec (.lineStop tag engine mode) s = .next (s.replied f ⟨.badValue, []⟩)) ∧
    ∀ (e : Engine) (m : StopMode), engine = sideCode e → mode = m.code →
      let en := s.engine e
      let strength : StopMode → Nat := fun x => match x with
        | .afterCycle => 1
        | .afterTransaction => 2
        | .abort => 3
      let halted : EngineState → EngineState := fun x => { x with
        run := .stopped, timer := none, activity := .none, started := false, callPending := false, cursor := 0
        visited := [], tallies := ⟨0, 0, 0, 0, 0, 0, 0⟩ }
      let inFlight := ∃ t, en.activity = .inTransaction t
      (en.run = .stopped → exec (.lineStop tag engine mode) s = .next (s.replied f ⟨.notRunning, []⟩)) ∧
      (∀ p, en.run = .stopping p → strength m ≤ strength p →
        exec (.lineStop tag engine mode) s = .next (s.replied f ⟨.alreadyStopping, []⟩)) ∧
      (en.run = .running ∨ (∃ p, en.run = .stopping p ∧ strength p < strength m) →
        (m = .afterCycle ∨ m = .afterTransaction ∧ inFlight →
          exec (.lineStop tag engine mode) s =
            .next ((s.withEngine e fun x => { x with run := .stopping m }).replied f ⟨.ok, []⟩)) ∧
        (m = .afterTransaction → ¬ inFlight → exec (.lineStop tag engine mode) s =
          .next (s.dispatched f ⟨.ok, []⟩ [.lineStopped e .afterTransaction en.cycle]
            fun u => u.withEngine e halted)) ∧
        (m = .abort → ¬ inFlight → exec (.lineStop tag engine mode) s =
          .next (s.dispatched f ⟨.ok, []⟩
            ((en.demands.map fun q =>
              .demandResult q.tag e q.station q.kind .discarded 0 (s.station q.station).last []) ++
                [.lineStopped e .abort en.cycle])
            fun u => u.withEngine e fun x => { halted x with demands := [] })))

/-- ABORT with a transaction in flight (R15, R49, R50, R72), in order: the ports end or withdraw its attempt, a character that is
shifting being finished and the rest of the frame dropped; the final outcome is ABORTED (R68); the statuses gathered are taken, with
their notices; a transfer's claim is released, and a demand ends with its DEMAND-RESULT ABORTED; an entry into ESCALATED is handed
over (log entry 10), with origin END-ACTION for a transfer and REPLY for every other source (log entry 17); the engine is STOPPED,
the demands in its queue end DISCARDED head first, and LINE-STATE STOPPED is raised. No health, descriptor, pair or stack changes.
The slot of the transaction is behind the engine (log entry 12). -/
def Obligations.AbortEndsTheTransaction : Prop :=
  ∀ (s : State) (tag : Byte) (e : Engine) (tr : Transaction), s.processing = none →
    (s.engine e).run ≠ .stopped → (s.engine e).run ≠ .stopping .abort → (s.engine e).activity = .inTransaction tr →
    let f : Frame := ⟨0x0B, tag, [sideCode e, 3]⟩
    let i := tr.subject
    let begun : State := (s.inDispatch f).withEngine e fun en => { en with run := .stopping .abort }
    let aborted : Port → Port := fun x =>
      let free : Port := match x.waiting with
        | some a => if a.engine = e then { x with waiting := none } else x
        | none => x
      let turned : Port := { free with
        phase := .turnaround, rxChar := none, rxBreak := false, shifter := none
        interval := some (x.settings.interval .turnaround) }
      match x.phase with
        | .sending (some a) =>
          if a.engine = e then { free with phase := .sending none, shifter := x.shifter.map Shifter.cut } else free
        | .awaiting a _ => if a.engine = e then turned else free
        | .receiving a _ => if a.engine = e then turned else free
        | .discarding a _ => if a.engine = e then turned else free
        | _ => free
    let resulted : State := ((begun.withPort .a aborted).withPort .b aborted).stationResults { tr with outcome := some .aborted } .aborted
    let completed : State := match tr.source with
      | .transfer d => resulted.setClaim d none
      | .demand q => resulted.raise
          (.demandResult q.tag e q.station q.kind .aborted tr.made (resulted.station q.station).last [])
      | _ => resulted
    let origin : Origin := match tr.source with
      | .transfer _ => .endAction
      | _ => .reply
    let handed : State :=
      if (s.attn i).state ≠ .escalated ∧ (completed.attn i).state = .escalated ∧
          completed.serviceLevel < (completed.attn i).level then
        completed.raise (.escalation i (completed.attn i).level (completed.attn i).cls (completed.station i).config.mode
          (some origin) ((List.finRange 64).countP fun j => decide ((completed.attn j).state = .escalated))
          completed.serviceLevel)
      else completed
    let halted : State := handed.withEngine e fun en => { en with
      run := .stopped, timer := none, activity := .none, next := if en.started then en.next + 1 else en.next
      started := false, callPending := false, cursor := 0, visited := [], tallies := ⟨0, 0, 0, 0, 0, 0, 0⟩, demands := [] }
    let ended : State := halted.raiseAll (((s.engine e).demands.map fun q =>
      .demandResult q.tag e q.station q.kind .discarded 0 (halted.station q.station).last []) ++
        [.lineStopped e .abort (s.engine e).cycle])
    ∃ t, exec (.lineStop tag (sideCode e) 3) s = .next t ∧ t = ended.placeReply f ⟨.ok, []⟩ s.tx ∧
      s.HoldsReply t f ⟨.ok, []⟩ ∧
      (t.engine e).run = .stopped ∧ (t.engine e).activity = .none ∧ (t.engine e).timer = none ∧
      (t.engine e).demands = [] ∧ (t.engine e).callPending = false ∧ (t.engine e).cursor = 0 ∧
      (t.engine e).summary = (s.engine e).summary ∧ (t.engine e).cycle = (s.engine e).cycle ∧
      (t.engine e).swapArmed = (s.engine e).swapArmed ∧ (t.engine e).active = (s.engine e).active ∧
      t.engine e.other = s.engine e.other ∧
      (t.station i).inTransaction = none ∧
      (∀ j : Fin 64, (t.station j).health = (s.station j).health ∧ (t.station j).failCount = (s.station j).failCount ∧
        (t.station j).config = (s.station j).config ∧ (j ≠ i → t.station j = s.station j ∧ t.attn j = s.attn j)) ∧
      t.descriptors = s.descriptors ∧ t.pairs = s.pairs ∧ t.stack = s.stack ∧
      (∀ d, tr.source = .transfer d → t.claim d = none) ∧
      ∀ (p : PortId) (a : Attempt), a.engine = e →
        ((s.port p).phase = .sending (some a) → (t.port p).phase = .sending none ∧
          (t.port p).shifter = (s.port p).shifter.map Shifter.cut) ∧
        (((∃ x, (s.port p).phase = .awaiting a x) ∨ (∃ cs, (s.port p).phase = .receiving a cs) ∨
            (∃ n, (s.port p).phase = .discarding a n)) →
          (t.port p).phase = .turnaround ∧
          (t.port p).interval = some ((s.port p).settings.interval .turnaround)) ∧
        ((s.port p).waiting = some a → (t.port p).waiting = none)

/-- A free engine takes its slots in index order (R53 to R55, R59): behind the last slot it is in CYCLE-WAIT; a slot that is not
selected is PASSED; one whose start time falls at or beyond the cycle's end is waited for and never starts, however late the
engine became free; a late one is SKIPPED-LATE, and the next is taken in the same moment; one whose start time has not come is
waited for; any other starts, and one that ends without a transaction is followed by the next. SLOT_START_TIME starts the slot
waited for, with the clock counted on to that moment (log entry 4), and changes nothing where no such start comes (log entry
3). -/
def Obligations.SlotsAreTakenInOrder : Prop :=
  ∀ (s : State) (e : Engine),
    let en := s.engine e
    let bank : Bank := match en.active with
      | .x => en.bankX
      | .y => en.bankY
    let elapsed := match en.timer with
      | some t => t.elapsed
      | none => 0
    let onward : State → State := fun u => (u.withEngine e fun x => { x with next := x.next + 1 }).takeSlots e
    let counted : (Tallies → Tallies) → State := fun g => s.withEngine e fun x => { x with tallies := g x.tallies }
    (bank.header.slotCount.val ≤ en.next → s.takeSlots e = s.withEngine e fun x => { x with activity := .cycleWait }) ∧
    ∀ n : Fin 128, en.next = n.val → n.val < bank.header.slotCount.val →
      let sl := bank.slots[n]
      let selected := en.cycle.toNat % sl.divisor.toNat = sl.phase.toNat
      let start := sl.offset.toNat * 100
      let late := start + bank.header.slack.toNat * 100 < elapsed
      let never := ∃ t, en.timer = some t ∧ t.period.toNat ≤ sl.offset.toNat
      (¬ selected → s.takeSlots e = onward (counted fun x => { x with passed := x.passed + 1 })) ∧
      (selected → never → s.takeSlots e = s.withEngine e fun x => { x with activity := .waiting }) ∧
      (selected → ¬ never → late → s.takeSlots e = onward (counted fun x => { x with skippedLate := x.skippedLate + 1 })) ∧
      (selected → elapsed < start → s.takeSlots e = s.withEngine e fun x => { x with activity := .waiting }) ∧
      (selected → ¬ never → ¬ late → start ≤ elapsed → s.takeSlots e =
        if (s.startSlot e n sl).2 then (s.startSlot e n sl).1 else onward (s.startSlot e n sl).1) ∧
      (∀ p, en.activity = .waiting → en.timer = some ⟨p, elapsed⟩ → sl.offset.toNat < p.toNat →
        let s0 : State := s.advance (start - elapsed)
        exec (.slotStartTime e) s =
          .next (if (s0.startSlot e n sl).2 then (s0.startSlot e n sl).1 else onward (s0.startSlot e n sl).1)) ∧
      (en.activity ≠ .waiting ∨ en.timer = none ∨ (∃ t, en.timer = some t ∧ t.period.toNat ≤ sl.offset.toNat) →
        exec (.slotStartTime e) s = .next s)

/-- The start of a FIXED slot (R56 to R58, R65, R66): refused when its station is disabled or out of scope or its pair has the wrong
direction; otherwise a probe for an OFFLINE station, or its own request, is issued: the subject is marked, and the first attempt
goes to the port of R69, where it begins at once on an IDLE port and waits on any other (R8). MODEL'S CHOICES: the next slot index
carries the mark that its slot has started (log entry 12), and a station that the same engine already has in a transaction, which
comes about in no run, is issued like any other (log entry 20). -/
def Obligations.FixedSlotIssuesItsTransaction : Prop :=
  ∀ (s : State) (e : Engine) (n : Fin 128) (sl : Slot) (x : FixedFields), sl.fixed = some x →
    let st := s.station x.station
    let pair := s.pair x.pair
    let refused := st.config.enabled = false ∨ engineFor s.arrangement st.config.home ≠ e ∨
      x.request = .read ∧ pair.direction ≠ .capture ∨ x.request = .write ∧ pair.direction ≠ .output
    let send : Vector Word 128 := match pair.working with
      | .zero => pair.half0
      | .one => pair.half1
    let words : List Word := (List.range x.count.toNat).map fun k => (send[x.wordOffset.val + k]?).getD 0
    let tr : Transaction :=
      if st.health = .offline then
        { subject := x.station, source := .probe n x, request := ⟨st.config.address, .status, 0, 0, []⟩, expected := 0
          limit := 1, made := 0, lastLine := none, statuses := [], readData := [], outcome := none }
      else
        { subject := x.station, source := .fixed n x
          request := match x.request with
            | .read => ⟨st.config.address, .read, x.point, x.count, []⟩
            | .write => ⟨st.config.address, .write, x.point, x.count, words⟩
            | .status => ⟨st.config.address, .status, x.point, 0, []⟩
          expected := if x.request = .read then x.count.toNat else 0
          limit := st.config.retries.val + 1, made := 0, lastLine := none, statuses := [], readData := [], outcome := none }
    let line : Line := match s.arrangement with
      | .independent => e
      | .paired => st.line
    let attempt : Attempt := ⟨e, tr.request, tr.expected⟩
    (refused → s.startSlot e n sl =
      (s.withEngine e fun en => { en with tallies := { en.tallies with refused := en.tallies.refused + 1 } }, false)) ∧
    (¬ refused → s.startSlot e n sl =
      (((s.withStation x.station fun y => { y with inTransaction := some e }).withEngine e fun en =>
          { en with
            tallies := { en.tallies with executed := en.tallies.executed + 1 }, started := true
            activity := .inTransaction { tr with lastLine := some line } }).withPort line fun p =>
          if p.phase = .idle then
            { p with
              phase := .sending (some attempt), waiting := none, monitor := .suspended, interval := none
              shifter := some ⟨⟨p.settings.rate, p.settings.parity, p.settings.stopBits⟩, attempt.request.wire, 0⟩ }
          else { p with waiting := some attempt }, true))

/-- An ATTENTION slot that starts asks for a grant (R59): it is counted executed when that issues a transaction, and otherwise idle
(R60), and the engine then takes the next slot. The grant order (R93 to R96, R99), with any stations passed over: the first step
that yields something. A chosen station's spent descriptor gives its end action, handed over at once when it is ESCALATE, and a pair
in the wrong direction gives nothing, and the order is taken again with the station passed over too; otherwise the record is
SERVING, the descriptor is claimed, and its transfer is issued as the descriptor then stands (R109): kind, point, points per
transfer, the words of the send half for WRITE, retries + 1 attempts. Every issue marks the subject and hands the first attempt to
the port of R69 (R65), where it begins at once on an IDLE port and waits on any other. A demand at the head whose station is
disabled or out of scope is discarded with its DEMAND-RESULT, and the next head is looked at (R77, R79). MODEL'S CHOICES: the next
slot index carries the mark that its slot has started (log entry 12), and a demand whose station the same engine already has in a
transaction, which comes about in no run, is issued (log entry 20). -/
def Obligations.GrantFollowsTheOrder : Prop :=
  (∀ (s : State) (e : Engine), s.grant e = s.grantOrder e []) ∧
  (∀ (s : State) (e : Engine) (n : Fin 128) (sl : Slot), sl.fixed = none →
    let granted : State := (s.grant e).1
    let counted : (Tallies → Tallies) → State := fun g => granted.withEngine e fun en => { en with tallies := g en.tallies }
    ((s.grant e).2 = true → s.startSlot e n sl = (counted fun x => { x with executed := x.executed + 1 }, true)) ∧
    ((s.grant e).2 = false → s.startSlot e n sl = (counted fun x => { x with idle := x.idle + 1 }, false))) ∧
  ∀ (s : State) (e : Engine) (passed : List (Fin 64)), passed.Nodup →
    let cand : Fin 64 → Prop := fun i => (s.station i).config.enabled = true ∧
      engineFor s.arrangement (s.station i).config.home = e ∧ (s.station i).health ≠ .offline ∧
      (s.station i).inTransaction = none ∧ i ∉ passed
    let work : Fin 64 → Prop := fun i => cand i ∧ (s.station i).config.mode = .descriptor ∧
      ((s.attn i).state = .pending ∨ (s.attn i).state = .serving) ∧ s.claim (s.station i).config.descriptor = none
    let eligible : Fin 64 → Prop := fun i => (s.attn i).level = 8 ∨ s.mask.val < (s.attn i).level.val
    let urgent : Fin 64 → Prop := fun i => work i ∧ (s.attn i).level = 8
    let owed : Fin 64 → Prop := fun i => cand i ∧ (s.attn i).state = .acking
    let important : Fin 64 → Prop := fun i => work i ∧ eligible i ∧ s.demandLevel.val < (s.attn i).level.val
    let remaining : Fin 64 → Prop := fun i => work i ∧ eligible i ∧ (s.attn i).level.val ≤ s.demandLevel.val
    let lowestOf : (Fin 64 → Prop) → Fin 64 → Prop := fun p i => p i ∧ ∀ j : Fin 64, p j → i ≤ j
    let bestOf : (Fin 64 → Prop) → Fin 64 → Prop := fun p i => p i ∧ ∀ j : Fin 64, p j →
      (s.attn j).level < (s.attn i).level ∨ (s.attn j).level = (s.attn i).level ∧ i ≤ j
    let demands : Prop := (s.engine e).run = .running ∧ (s.engine e).demands ≠ []
    let chosen : Fin 64 → Prop := fun i => lowestOf urgent i ∨
      (∀ j, ¬ urgent j ∧ ¬ owed j) ∧ (bestOf important i ∨ (∀ j, ¬ important j) ∧ ¬ demands ∧ bestOf remaining i)
    let descriptorOf : Fin 64 → Descriptor := fun i => s.descriptor (s.station i).config.descriptor
    let fitting : Fin 64 → Prop := fun i => (s.pair (descriptorOf i).pair).direction =
      (match (descriptorOf i).kind with
        | .read => .capture
        | .write => .output)
    let limit : Fin 64 → Nat := fun i => (s.station i).config.retries.val + 1
    let transfer : Fin 64 → Transaction := fun i =>
      let r := descriptorOf i
      let send : Vector Word 128 := match (s.pair r.pair).working with
        | .zero => (s.pair r.pair).half0
        | .one => (s.pair r.pair).half1
      let words : List Word := (List.range r.perTransfer.toNat).map fun k => (send[r.wordOffset.val + k]?).getD 0
      { subject := i, source := .transfer (s.station i).config.descriptor
        request := match r.kind with
          | .read => ⟨(s.station i).config.address, .read, r.point, r.perTransfer, []⟩
          | .write => ⟨(s.station i).config.address, .write, r.point, r.perTransfer, words⟩
        expected := if r.kind = .read then r.perTransfer.toNat else 0
        limit := limit i, made := 0, lastLine := none, statuses := [], readData := [], outcome := none }
    let issued : State → Transaction → State := fun u t =>
      let line : Line := match s.arrangement with
        | .independent => e
        | .paired => (s.station t.subject).line
      let attempt : Attempt := ⟨e, t.request, t.expected⟩
      ((u.withStation t.subject fun y => { y with inTransaction := some e }).withEngine e fun en =>
          { en with started := true, activity := .inTransaction { t with lastLine := some line } }).withPort line fun p =>
        if p.phase = .idle then
          { p with
            phase := .sending (some attempt), waiting := none, monitor := .suspended, interval := none
            shifter := some ⟨⟨p.settings.rate, p.settings.parity, p.settings.stopBits⟩, attempt.request.wire, 0⟩ }
        else { p with waiting := some attempt }
    (∀ i, chosen i → (descriptorOf i).remaining ≠ 0 → fitting i → s.grantOrder e passed =
      (issued ((s.setAttn i { s.attn i with state := .serving }).setClaim (s.station i).config.descriptor (some e))
        (transfer i), true)) ∧
    (∀ i, chosen i → (descriptorOf i).remaining ≠ 0 → ¬ fitting i → s.grantOrder e passed = s.grantOrder e (i :: passed)) ∧
    (∀ i, chosen i → (descriptorOf i).remaining = 0 →
      let u : State := s.setAttn i { s.attn i with
        state := if (descriptorOf i).endAction = .escalate then .escalated else .acking }
      s.grantOrder e passed =
        (if (descriptorOf i).endAction = .escalate ∧ s.serviceLevel < (s.attn i).level then
          u.raise (.escalation i (s.attn i).level (s.attn i).cls .descriptor (some .endAction)
            ((List.finRange 64).countP fun j => decide (j = i ∨ (s.attn j).state = .escalated)) s.serviceLevel)
        else u).grantOrder e (i :: passed)) ∧
    (∀ i, (∀ j, ¬ urgent j) → lowestOf owed i → s.grantOrder e passed = (issued s
      { subject := i, source := .acknowledge, request := ⟨(s.station i).config.address, .acknowledge, 0, 0, []⟩
        expected := 0, limit := limit i, made := 0, lastLine := none, statuses := [], readData := [], outcome := none }, true)) ∧
    (∀ q rest, (∀ j, ¬ urgent j ∧ ¬ owed j ∧ ¬ important j) → (s.engine e).run = .running →
      (s.engine e).demands = q :: rest → (s.station q.station).config.enabled = true →
      engineFor s.arrangement (s.station q.station).config.home = e →
      s.grantOrder e passed = (issued (s.withEngine e fun en => { en with demands := rest })
        { subject := q.station, source := .demand q
          request := ⟨(s.station q.station).config.address, match q.kind with
            | .read => .read
            | .write => .write
            | .status => .status, q.point, q.count, q.data⟩
          expected := if q.kind = .read then q.count.toNat else 0
          limit := limit q.station, made := 0, lastLine := none, statuses := [], readData := [], outcome := none }, true)) ∧
    (∀ q rest, (∀ j, ¬ urgent j ∧ ¬ owed j ∧ ¬ important j) → (s.engine e).run = .running →
      (s.engine e).demands = q :: rest →
      (s.station q.station).config.enabled = false ∨ engineFor s.arrangement (s.station q.station).config.home ≠ e →
      s.grantOrder e passed = ((s.withEngine e fun en => { en with demands := rest }).raise
        (.demandResult q.tag e q.station q.kind .discarded 0 (s.station q.station).last [])).grantOrder e passed) ∧
    ((∀ j, ¬ urgent j ∧ ¬ owed j ∧ ¬ important j ∧ ¬ remaining j) → ¬ demands →
      let visit : Fin 64 → Prop := fun i => cand i ∧ (s.station i).config.sweepMember = true ∧ (s.attn i).state = .clear ∧
        i ∉ (s.engine e).visited
      let at_ : Nat → Fin 64 := fun k => (s.engine e).cursor + Fin.ofNat 64 k
      ((s.engine e).callPending = false → s.grantOrder e passed = (s, false)) ∧
      ((s.engine e).callPending = true → (∀ i, ¬ visit i) → s.grantOrder e passed =
        (s.withEngine e fun en => { en with callPending := false, visited := [] }, false)) ∧
      (∀ k : Nat, k < 64 → (s.engine e).callPending = true → visit (at_ k) → (∀ j, j < k → ¬ visit (at_ j)) → s.grantOrder e passed =
        (issued (s.withEngine e fun en => { en with visited := en.visited ++ [at_ k], cursor := at_ k + 1 })
          { subject := at_ k, source := .sweep
            request := ⟨(s.station (at_ k)).config.address, .status, 0, 0, []⟩, expected := 0, limit := 1, made := 0
            lastLine := none, statuses := [], readData := [], outcome := none }, true)))

/-- PERIOD_EXPIRY (R51, R52, R60, R61). MODEL'S CHOICE (log entry 3): with no running timer nothing happens. Otherwise the clock has
counted on to the expiry (MODEL'S CHOICE, log entry 4). The slots that have not started are those from the next slot index on, or
those behind it when the slot there is marked as started (MODEL'S CHOICE, log entry 12): each is counted overrun or passed, the
tallies become the summary, and a CYCLE-REPORT is raised when skipped-late + overrun + refused is above 0. RUNNING and
AFTER-TRANSACTION start the next cycle, which takes slot 0 at once when the engine is free; AFTER-CYCLE stops, with the mark cleared
(MODEL'S CHOICE, log entry 12), or waits without a timer for the transaction in flight (R47). -/
def Obligations.PeriodExpiryEndsTheCycle : Prop :=
  ∀ (s : State) (e : Engine),
    ((s.engine e).timer = none → exec (.periodExpiry e) s = .next s) ∧
    ∀ tm, (s.engine e).timer = some tm →
      let ahead := tm.period.toNat * 100 - tm.elapsed
      let s0 : State := s.advance ahead
      let en := s0.engine e
      let bank : BankId → Bank := fun b => match b with
        | .x => en.bankX
        | .y => en.bankY
      let left : List (Fin 128) := (List.finRange 128).filter fun n =>
        decide ((if en.started then en.next + 1 else en.next) ≤ n.val ∧ n.val < (bank en.active).header.slotCount.val)
      let picked : Fin 128 → Bool := fun n =>
        decide (en.cycle.toNat % (bank en.active).slots[n].divisor.toNat = (bank en.active).slots[n].phase.toNat)
      let tallies : Tallies := { en.tallies with
        overrun := en.tallies.overrun + left.countP picked, passed := en.tallies.passed + left.countP fun n => !picked n }
      let ended : State := (s0.withEngine e fun x =>
        { x with tallies := tallies, summary := ⟨true, x.cycle, x.active, tallies⟩ }).raiseAll
          (if 0 < tallies.skippedLate + tallies.overrun + tallies.refused then
            [.cycleReport e en.cycle en.active tallies] else [])
      let next := if en.swapArmed then en.active.other else en.active
      let begun : State := ended.withEngine e fun x => { x with
        active := next, swapArmed := false, cycle := x.cycle + 1, cycleStart := s0.time
        timer := some ⟨(bank next).header.period, 0⟩, next := 0, started := false, tallies := ⟨0, 0, 0, 0, 0, 0, 0⟩ }
      let halted : State := (ended.withEngine e fun x => { x with
        run := .stopped, timer := none, activity := .none, started := false, callPending := false, cursor := 0
        visited := [], tallies := ⟨0, 0, 0, 0, 0, 0, 0⟩ }).raise (.lineStopped e .afterCycle en.cycle)
      (en.run = .running ∨ en.run = .stopping .afterTransaction → exec (.periodExpiry e) s =
        .next (if en.activity = .waiting ∨ en.activity = .cycleWait then begun.takeSlots e else begun)) ∧
      (en.run = .stopping .afterCycle → exec (.periodExpiry e) s =
        .next (match en.activity with
          | .inTransaction _ => ended.withEngine e fun x => { x with timer := none }
          | _ => halted))

/-- The end of an attempt (R13, R14, R67 to R69): the port enters TURNAROUND and its gap begins; the engine counts the attempt and
keeps a GOOD or BUSY reply's status and a GOOD READ's words; a result not final hands the next attempt to the port of R69, and a
final one, whose outcome is that of this attempt (R68), ends the transaction. -/
def Obligations.AttemptEndRetriesOrIsFinal : Prop :=
  ∀ (s : State) (p : PortId) (a : Attempt) (rep : Report) (tr : Transaction),
    (s.engine a.engine).activity = .inTransaction tr →
    let turned : State := s.withPort p fun x => { x with
      phase := .turnaround, rxChar := none, rxBreak := false, shifter := none
      interval := some (x.settings.interval .turnaround) }
    let replied := rep.outcome = .good ∨ rep.outcome = .busy
    let tr' : Transaction := { tr with
      made := tr.made + 1, lastLine := some p
      statuses := if replied then tr.statuses ++ [⟨p, rep.status, s.time⟩] else tr.statuses
      readData := if rep.outcome = .good ∧ tr.request.kind = .read then rep.data else tr.readData }
    let final := rep.outcome = .good ∨ tr.limit ≤ tr.made + 1
    let cfg := (s.station tr.subject).config
    let line : Line :=
      if s.arrangement = .paired ∧ rep.outcome ≠ .busy ∧ cfg.alternate = .other ∧ cfg.switchOnRetry = true then p.other else p
    let next : Attempt := ⟨a.engine, tr.request, tr.expected⟩
    (final → s.endAttempt p a rep = turned.endTransaction a.engine { tr' with outcome := some rep.outcome } rep.outcome p) ∧
    (¬ final → s.endAttempt p a rep =
      (turned.withEngine a.engine fun en => { en with activity := .inTransaction { tr' with lastLine := some line } }).withPort
        line fun x => if x.phase = .idle then
            { x with
              phase := .sending (some next), waiting := none, monitor := .suspended, interval := none
              shifter := some ⟨⟨x.settings.rate, x.settings.parity, x.settings.stopBits⟩, next.request.wire, 0⟩ }
          else { x with waiting := some next })

/-- A transaction's final result is handed on as one event, in R70's order: the words of a GOOD READ of a slot or a transfer go to
the fill half (R122, R110 step 1); the Station Table and the Arbiter take the results; the source completes: a transfer as R110
has it, a sweep step by its class or by the search that finds no station (R100), a demand with its DEMAND-RESULT (R81); a FIXED
slot's READ or WRITE with flip-after sends its flip, its probe's too (R57); a failed outcome counts in the cycle that is running
(R60); an entry into ESCALATED made by the results is handed over behind them, with origin END-ACTION for a transfer and REPLY for
any other source (R90, R135; MODEL'S CHOICE of the place, log entry 10, and of the origin, log entry 17); and the engine, its slot
behind it (log entry 12), is in GAP for the port of the last attempt, or stops where a pending stop waits for this end (R47, R48).
STOPPING ABORT is over within the event that sets it; behind it the engine would stop as R50 has it (log entry 20). -/
def Obligations.TransactionEndIsOneEvent : Prop :=
  ∀ (s : State) (e : Engine) (t : Transaction) (o : LineOutcome) (port : PortId),
    let i := t.subject
    let fill : Fin 16 → Nat → State := fun p start =>
      let r := s.pair p
      let put : Vector Word 128 → Vector Word 128 := fun v => Vector.ofFn fun k =>
        if start ≤ k.val then (t.readData[k.val - start]?).getD v[k] else v[k]
      s.setPair p (match r.working with
        | .zero => { r with half0 := put r.half0, captureStamp := s.time }
        | .one => { r with half1 := put r.half1, captureStamp := s.time })
    let delivered : State := if o = .good ∧ t.request.kind = .read then
        (match t.source with
          | .fixed _ f => fill f.pair f.wordOffset.val
          | .transfer d => fill (s.descriptor d).pair (s.descriptor d).wordOffset.val
          | _ => s)
      else s
    let resulted : State := delivered.stationResults t o
    let visits : Fin 64 → Bool := fun j => decide ((resulted.station j).config.sweepMember = true ∧
      (resulted.station j).config.enabled = true ∧ engineFor s.arrangement (resulted.station j).config.home = e ∧
      (resulted.station j).health ≠ .offline ∧ (resulted.station j).inTransaction = none ∧
      (resulted.attn j).state = .clear ∧ j ∉ (s.engine e).visited)
    let completed : State := match t.source with
      | .transfer _ => resulted.sourceCompletion e t o
      | .sweep =>
        if (t.statuses.any fun x => decide (x.status.cls ≠ 0)) || !(List.finRange 64).any visits then
          resulted.withEngine e fun en => { en with callPending := false, visited := [] }
        else resulted
      | .demand q => resulted.raise (.demandResult q.tag e q.station q.kind o t.made (resulted.station q.station).last
          (if o = .good ∧ q.kind = .read then t.readData else []))
      | _ => resulted
    let slotFlip : Fin 128 → FixedFields → State := fun n f =>
      if f.flipAfter = true ∧ f.request ≠ .status then completed.flip e f.pair (.slot n) else completed
    let flipped : State := match t.source with
      | .fixed n f => slotFlip n f
      | .probe n f => slotFlip n f
      | _ => completed
    let counted : State :=
      if (o = .noReply ∨ o = .garbled ∨ o = .wrongStation) ∧ (s.engine e).timer ≠ none then
        flipped.withEngine e fun en => { en with tallies := { en.tallies with failed := en.tallies.failed + 1 } }
      else flipped
    let origin : Origin := match t.source with
      | .transfer _ => .endAction
      | _ => .reply
    let handed : State :=
      if (s.attn i).state ≠ .escalated ∧ (counted.attn i).state = .escalated ∧
          counted.serviceLevel < (counted.attn i).level then
        counted.raise (.escalation i (counted.attn i).level (counted.attn i).cls (counted.station i).config.mode
          (some origin) ((List.finRange 64).countP fun j => decide ((counted.attn j).state = .escalated))
          counted.serviceLevel)
      else counted
    let left : State := handed.withEngine e fun en => { en with
      next := if en.started then en.next + 1 else en.next, started := false, activity := .gap port }
    let halted : State := left.withEngine e fun en => { en with
      run := .stopped, timer := none, activity := .none, callPending := false, cursor := 0, visited := []
      tallies := ⟨0, 0, 0, 0, 0, 0, 0⟩ }
    s.endTransaction e t o port = match (s.engine e).run with
      | .running => left
      | .stopped => left
      | .stopping .afterCycle =>
        if (s.engine e).timer = none then halted.raise (.lineStopped e .afterCycle (s.engine e).cycle) else left
      | .stopping .afterTransaction => halted.raise (.lineStopped e .afterTransaction (s.engine e).cycle)
      | .stopping .abort => (halted.withEngine e fun en => { en with demands := [] }).raiseAll
          (((s.engine e).demands.map fun q =>
            .demandResult q.tag e q.station q.kind .discarded 0 (halted.station q.station).last []) ++
              [.lineStopped e .abort (s.engine e).cycle])

/-- The results of a transaction at the Station Table and the Arbiter (R27). The reply statuses are taken in turn: a reply on a port
other than the current line moves it and raises LINE-CHANGED (R30); the last status and contact are the reply's, and a changed
fault flag raises FAULT-SET or FAULT-CLEARED (R32, R33; which last status each notice carries is log entry 18); and the Arbiter takes
the status. Behind them comes the health update with ONLINE or OFFLINE (R28), the OFFLINE effects (R92), the probe toggle (R31) and
the in-transaction field's return to none (R26). In sum: health, fail count, last status, contact and line of the subject, its
attention record, and no other station, record, engine, pair, descriptor, claim, stack or port. -/
def Obligations.ResultsReachTheStation : Prop :=
  ∀ (s : State) (tr : Transaction) (o : LineOutcome),
    let i := tr.subject
    let u := s.stationResults tr o
    let st := s.station i
    let failed : Bool := decide (o = .noReply ∨ o = .garbled ∨ o = .wrongStation)
    let answered : Bool := decide (o = .good ∨ o = .busy)
    let isProbe : Bool := match tr.source with
      | .probe _ _ => true
      | _ => false
    let record := (tr.statuses.foldl (fun x r => x.takeStatus i tr.source r.status) s).attn i
    (∀ r rest, tr.statuses = r :: rest →
      let moved : State := if st.line = r.port then s
        else (s.withStation i fun x => { x with line := r.port }).raise
          (.stationState i .lineChanged st.health r.port st.last)
      let taken : State := moved.withStation i fun x => { x with last := r.status, lastContact := r.time }
      let told : State := if r.status.fault = st.last.fault then taken
        else taken.raise
          (.stationState i (if r.status.fault then .faultSet else .faultCleared) st.health r.port r.status)
      u = (told.takeStatus i tr.source r.status).stationResults { tr with statuses := rest } o) ∧
    (tr.statuses = [] →
      let health : Health := if answered then .online
        else if failed then (if 2 ≤ st.failCount.val then .offline else .suspect) else st.health
      let scored : State := if answered then s.withStation i fun x => { x with failCount := 0, health := .online }
        else if failed then s.withStation i fun x =>
          { x with failCount := Fin.ofNat 4 (min 3 (st.failCount.val + 1)), health := health }
        else s
      let told : State :=
        if answered = true ∧ st.health = .offline then scored.raise (.stationState i .online .online st.line st.last)
        else if failed = true ∧ st.health ≠ .offline ∧ health = .offline then
          scored.raise (.stationState i .offline .offline st.line st.last)
        else scored
      let cleared : State := if health = .offline ∧ (s.attn i).state ≠ .held then told.setAttn i ⟨.clear, 0, 0⟩ else told
      let toggled : State :=
        if isProbe = true ∧ failed = true ∧ s.arrangement = .paired ∧ st.config.alternate = .other ∧ health = .offline then
          cleared.withStation i fun x => { x with line := st.line.other }
        else cleared
      u = toggled.withStation i fun x => { x with inTransaction := none }) ∧
    (u.station i).config = st.config ∧ (u.station i).inTransaction = none ∧
    (answered = true → (u.station i).failCount = 0 ∧ (u.station i).health = .online) ∧
    (failed = true → (u.station i).failCount.val = min 3 (st.failCount.val + 1) ∧
      (u.station i).health = if 2 ≤ st.failCount.val then .offline else .suspect) ∧
    (answered = false → failed = false → (u.station i).failCount = st.failCount ∧ (u.station i).health = st.health) ∧
    ((u.station i).last, (u.station i).lastContact) =
      (match tr.statuses.getLast? with
        | some r => (r.status, r.time)
        | none => (st.last, st.lastContact)) ∧
    (let line := match tr.statuses.getLast? with
        | some r => r.port
        | none => st.line
      let toggles := isProbe = true ∧ failed = true ∧ s.arrangement = .paired ∧ st.config.alternate = .other ∧
        (u.station i).health = .offline
      (toggles → (u.station i).line = line.other) ∧ (¬ toggles → (u.station i).line = line)) ∧
    u.attn i = (if (u.station i).health = .offline ∧ record.state ≠ .held then ⟨.clear, 0, 0⟩ else record) ∧
    (∀ j, j ≠ i → u.station j = s.station j ∧ u.attn j = s.attn j) ∧
    u.engineA = s.engineA ∧ u.engineB = s.engineB ∧ u.pairs = s.pairs ∧ u.descriptors = s.descriptors ∧
    u.claims = s.claims ∧ u.stack = s.stack ∧ u.portA = s.portA ∧ u.portB = s.portB

/-- The Arbiter takes one reply status (R83, R88, R89): by the state of the record it finds, with the escalation check against
the station record and M as they stand. Nothing else changes. -/
def Obligations.ArbiterTakesStatus : Prop :=
  ∀ (s : State) (i : Fin 64) (src : Source) (t : Status),
    let st := s.station i
    let level : Fin 9 := if t.cls = 2 then 8 else st.config.level.castSucc
    let processed : State := s.setAttn i (
      if t.cls = 0 then ⟨.clear, 0, 0⟩
      else if st.config.mode = .host ∧ (level = 8 ∨ s.mask.val < level.val) then ⟨.escalated, level, t.cls⟩
      else ⟨.pending, level, t.cls⟩)
    ((s.attn i).state = .clear ∨ (s.attn i).state = .pending → s.takeStatus i src t = processed) ∧
    ((s.attn i).state = .serving ∨ (s.attn i).state = .escalated ∨ (s.attn i).state = .held → s.takeStatus i src t = s) ∧
    ((s.attn i).state = .acking →
      s.takeStatus i src t = if src = .acknowledge ∧ t.busy = false then processed else s)

/-- A flip event at a pair (R126 to R129): it exchanges the halves while the host half is RELEASED (CAPTURE) or COMMITTED
(OUTPUT), with a PAIR-FLIPPED notice that carries the miss flag as it stood; otherwise it sets the miss flag. -/
def Obligations.FlipExchangesOrMisses : Prop :=
  ∀ (s : State) (e : Engine) (p : Fin 16) (cause : FlipCause),
    let r := s.pair p
    let done := r.direction = .capture ∧ r.hostState = .released ∨ r.direction = .output ∧ r.hostState = .committed
    (done → s.flip e p cause = (s.setPair p { r with
        working := r.working.other, hostState := if r.direction = .capture then .unread else .editing
        sequence := r.sequence + 1, flipStamp := s.time, miss := false }).raise
          (.pairFlipped p r.direction cause e r.working (r.sequence + 1) r.miss r.captureStamp)) ∧
    (¬ done → s.flip e p cause = s.setPair p { r with miss := true })

/-- The source completion of a descriptor transfer (R110 steps 2 to 6, R111 to R113): a GOOD one counts down, moves the point and
the word offset on as asked, sends its wrap flip, gives the end action of a spent descriptor to a SERVING subject (log entry 17) and
sends the end flip; any other outcome changes no field; the claim is released either way. The count of a descriptor that is spent
before, which comes about in no run, stays 0 (MODEL'S CHOICE, log entry 20). -/
def Obligations.TransferUpdatesItsDescriptor : Prop :=
  ∀ (s : State) (e : Engine) (t : Transaction) (d : Fin 32) (o : LineOutcome), t.source = .transfer d →
    let r := s.descriptor d
    let moved := r.wordOffset.val + r.perTransfer.toNat
    let wraps := r.advanceOffset = true ∧ 128 < moved + r.perTransfer.toNat
    let left := r.remaining.toNat - 1
    let u1 := s.setDescriptor d { r with
      remaining := BitVec.ofNat 8 left
      point := if r.advancePoint then r.point + r.perTransfer.setWidth 16 else r.point
      wordOffset := if r.advanceOffset = false then r.wordOffset else if wraps then 0 else Fin.ofNat 128 moved }
    let u2 := if wraps then u1.flip e r.pair (.descriptorWrap d) else u1
    let ended := if (s.attn t.subject).state = .serving then u2.setAttn t.subject { s.attn t.subject with
      state := if r.endAction = .escalate then .escalated else .acking } else u2
    (o ≠ .good → s.sourceCompletion e t o = s.setClaim d none) ∧
    (1 ≤ r.perTransfer.toNat → moved ≤ 128 → s.sourceCompletion e t .good =
      (if left ≠ 0 then u2
        else if r.flipAtEnd then ended.flip e r.pair (.descriptorEnd d) else ended).setClaim d none)

/-- One character at a port (R5, R9 to R11): outside a reply window it is not taken, and none comes on a line that has stayed low,
after a framing error or from before the window (log entry 15). It is clean when its first stop bit is high and its parity bit
agrees with the parity it began with, which NONE always does (R1, R5). The attempt goes on with the phase and the gap timer that the
character gives, or it ends: NO-REPLY behind an expired timeout, GARBLED at the 38th character of a discarded reply, and by its
classification when its length is reached. MODEL'S CHOICES: a character's end leaves RXD at the level of its stop bit, and one may
come from a high level with no LINE_LOW before it, under the settings as they stand (log entry 15); an error at the 38th character
ends the attempt too (log entry 16). -/
def Obligations.ReplyWindowTakesCharacters : Prop :=
  ∀ (s : State) (p : PortId) (v : Byte) (parity stop : Level),
    let c := Instr.fieldCharacterReceived p v ⟨parity, stop⟩
    let x := s.port p
    let hears := x.rxBreak = false ∧ (x.rxChar ≠ none ∨ x.rxd = .high)
    let format : CharFormat := match x.rxChar with
      | some f => f
      | none => ⟨x.settings.rate, x.settings.parity, x.settings.stopBits⟩
    let ones := [0, 1, 2, 3, 4, 5, 6, 7].countP fun k => v.getLsbD k
    let agrees : Bool := match format.parity with
      | .none => true
      | .even => decide ((parity = .high) = (ones % 2 = 1))
      | .odd => decide ((parity = .high) = (ones % 2 = 0))
    let clean : Bool := decide (stop = .high) && agrees
    let after : Port → Port := fun y => { y with rxd := stop, rxChar := none, rxBreak := decide (stop = .low) }
    let gap : Port → Option Interval := fun y => some (y.settings.interval .replyGap)
    let ends : Attempt → Report → State := fun a r => (s.withPort p after).endAttempt p a r
    let discards : Attempt → Nat → State := fun a n =>
      if 38 ≤ n then ends a ⟨.garbled, ⟨0, false, false⟩, []⟩
      else s.withPort p fun y => { after y with phase := .discarding a n, interval := gap y }
    (x.phase = .idle ∨ x.phase = .turnaround ∨ (∃ a, x.phase = .sending a) → exec c s = .next s) ∧
    (¬ hears → exec c s = .next s) ∧
    (∀ a expired, hears → x.phase = .awaiting a expired → exec c s = .next (
      if v = 0x5A ∧ clean = true then s.withPort p fun y => { after y with phase := .receiving a [v], interval := gap y }
      else if expired then ends a ⟨.noReply, ⟨0, false, false⟩, []⟩
      else s.withPort p after)) ∧
    (∀ a chars, hears → x.phase = .receiving a chars →
      let all := chars ++ [v]
      let count := (all.getD 3 0).toNat
      exec c s = .next (
        if clean = false ∨ 4 ≤ all.length ∧ 16 < count then discards a all.length
        else if 4 ≤ all.length ∧ all.length = 6 + 2 * count then ends a (.ofReply a all)
        else s.withPort p fun y => { after y with phase := .receiving a all, interval := gap y })) ∧
    (∀ a n, hears → x.phase = .discarding a n → exec c s = .next (discards a (n + 1)))

/-- A complete reply is classified in the order of R12, by its bytes as R172 takes them: the check over address echo through data,
the whole echo byte, class, busy flag and count. GOOD and BUSY carry the status, GOOD the words. -/
def Obligations.ReplyIsClassifiedInOrder : Prop :=
  ∀ (a : Attempt) (echo status count c1 c0 : Byte) (words : List Word), words.length = count.toNat →
    let covered := [echo, status, count] ++ wordsBytes words
    let cls := status.toNat % 4
    let bits : Status := ⟨if cls = 1 then 1 else if cls = 2 then 2 else 0, status.getLsbD 2, status.getLsbD 3⟩
    Report.ofReply a (0x5A :: (covered ++ [c1, c0])) =
      if wordOf c1 c0 ≠ frameCheck covered then ⟨.garbled, ⟨0, false, false⟩, []⟩
      else if echo ≠ a.request.address then ⟨.wrongStation, ⟨0, false, false⟩, []⟩
      else if cls = 3 then ⟨.garbled, ⟨0, false, false⟩, []⟩
      else if status.getLsbD 2 = true ∧ count = 0 then ⟨.busy, bits, []⟩
      else if status.getLsbD 2 = true then ⟨.garbled, ⟨0, false, false⟩, []⟩
      else if count.toNat ≠ a.expected then ⟨.garbled, ⟨0, false, false⟩, []⟩
      else ⟨.good, bits, words⟩

/-- The reply that REPLY_FRAME_COMPLETE brings is its characters, all clean, one by one (R5, R10, R12; MODEL'S CHOICE, log entry
11): from a port in RECEIVING the rest of the reply, from one in AWAITING the whole of it; the attempt then ends by the
classification. None comes on a line that has stayed low, and the last character leaves RXD high (MODEL'S CHOICE, log entry 15); in
any other phase there is no reply to complete (log entry 3). -/
def Obligations.ReplyFrameIsItsCharacters : Prop :=
  ∀ (s : State) (p : PortId) (a : Attempt) (chars : List Byte) (first : Byte) (more : List Byte),
    let x := s.port p
    let rest := first :: more
    let hears := x.rxBreak = false ∧ (x.rxChar ≠ none ∨ x.rxd = .high)
    let settled : CharFormat := ⟨x.settings.rate, x.settings.parity, x.settings.stopBits⟩
    let begun : CharFormat := match x.rxChar with
      | some f => f
      | none => settled
    let parity : CharFormat → Byte → Level := fun f v =>
      let ones := [0, 1, 2, 3, 4, 5, 6, 7].countP fun k => v.getLsbD k
      match f.parity with
        | .none => .high
        | .even => if ones % 2 = 1 then .high else .low
        | .odd => if ones % 2 = 0 then .high else .low
    let all := chars ++ rest
    (¬ hears → exec (.replyFrameComplete p rest) s = .next s) ∧
    (x.phase = .idle ∨ x.phase = .turnaround ∨ (∃ b, x.phase = .sending b) ∨ (∃ b n, x.phase = .discarding b n) →
      exec (.replyFrameComplete p rest) s = .next s) ∧
    (hears → (x.phase = .receiving a chars ∧ chars ≠ [] ∨
        (∃ expired, x.phase = .awaiting a expired) ∧ chars = [] ∧ first = 0x5A) →
      4 ≤ all.length → (all.getD 3 0).toNat ≤ 16 → all.length = 6 + 2 * (all.getD 3 0).toNat →
      exec (.replyFrameComplete p rest) s = runAll (.fieldCharacterReceived p first ⟨parity begun first, .high⟩ ::
        more.map fun v => .fieldCharacterReceived p v ⟨parity settled v, .high⟩) s ∧
      exec (.replyFrameComplete p rest) s = .next ((s.withPort p fun y =>
        { y with rxd := .high, rxChar := none, rxBreak := false }).endAttempt p a (.ofReply a all)))

/-- The timed events of a port (R1, R9 to R11, R14, R15). Each acts in its own phase and changes nothing in any other (log entry
3); an interval has the length that the settings give when it begins. REPLY_TIMEOUT waits for a character in progress; the gap
between characters ends with a start bit (log entry 15). A turnaround gap ends in IDLE, or in the waiting attempt, and a port
ready frees the engine that waits for it. MODEL'S CHOICES: DISCARD_LIMIT_REACHED ends a DISCARDING attempt at any count, the
characters before the 38th being taken as having come, and leaves RXD at the level of the 38th's stop bit (log entries 11 and
15). -/
def Obligations.PortTimersMoveThePort : Prop :=
  (∀ (c : PortSettings) (use : IntervalUse), c.interval use = {
    use := use, rate := c.rate
    bits := 9 + (if c.parity = .none then 0 else 1) + (if c.stopBits = .two then 2 else 1)
    chars := match use with
      | .replyTimeout => if c.replyTimeout = 0 then 2 else if c.replyTimeout = 1 then 4 else if c.replyTimeout = 2 then 16 else 64
      | .turnaround => c.gap.toNat
      | .replyGap => 2
      | .lineCall => 2 }) ∧
  ∀ (s : State) (p : PortId),
    let ph := (s.port p).phase
    let user := engineFor s.arrangement p
    let ends : Attempt → LineOutcome → State := fun a o => s.endAttempt p a ⟨o, ⟨0, false, false⟩, []⟩
    let hears := (s.port p).rxBreak = false ∧ ((s.port p).rxChar ≠ none ∨ (s.port p).rxd = .high)
    let windowed := (∃ a cs, ph = .receiving a cs) ∨ (∃ a n, ph = .discarding a n)
    (∀ a, ph = .sending (some a) → exec (.requestFrameSent p) s = .next (s.withPort p fun x => { x with
      phase := .awaiting a false, rxChar := none, rxBreak := false, shifter := none
      interval := some (x.settings.interval .replyTimeout) })) ∧
    ((∀ a, ph ≠ .sending (some a)) → exec (.requestFrameSent p) s = .next s) ∧
    (∀ a, ph = .awaiting a false → exec (.replyTimeout p) s = .next (
      if (s.port p).rxChar ≠ none then s.withPort p fun x => { x with phase := .awaiting a true, interval := none }
      else ends a .noReply)) ∧
    ((∀ a, ph ≠ .awaiting a false) → exec (.replyTimeout p) s = .next s) ∧
    (∀ a, (∃ cs, ph = .receiving a cs) ∨ (∃ n, ph = .discarding a n) →
      exec (.replyGapExpiry p) s = .next (if (s.port p).rxChar ≠ none then s else ends a .garbled)) ∧
    (¬ windowed → exec (.replyGapExpiry p) s = .next s) ∧
    (∀ a n stop, ph = .discarding a n → hears → exec (.discardLimitReached ⟨p, stop⟩) s = .next
      ((s.withPort p fun x => { x with rxd := stop, rxChar := none, rxBreak := decide (stop = .low) }).endAttempt p a
        ⟨.garbled, ⟨0, false, false⟩, []⟩)) ∧
    (∀ stop, (∀ a n, ph ≠ .discarding a n) ∨ ¬ hears → exec (.discardLimitReached ⟨p, stop⟩) s = .next s) ∧
    (ph = .sending none → exec (.abortedCharacterEnd p) s = .next (s.withPort p fun x => { x with
      phase := .turnaround, rxChar := none, rxBreak := false, shifter := none
      interval := some (x.settings.interval .turnaround) })) ∧
    (ph ≠ .sending none → exec (.abortedCharacterEnd p) s = .next s) ∧
    (ph = .turnaround →
      let u := s.withPort p fun x => match x.waiting with
        | some a => { x with
            phase := .sending (some a), waiting := none, monitor := .suspended, interval := none
            shifter := some ⟨⟨x.settings.rate, x.settings.parity, x.settings.stopBits⟩, a.request.wire, 0⟩ }
        | none => { x with phase := .idle, interval := none, monitor := if x.rxd = .high then .armed else .waitHigh }
      exec (.turnaroundGapExpiry p) s =
        .next (if (s.engine user).activity = .gap p then u.takeSlots user else u)) ∧
    (ph ≠ .turnaround → exec (.turnaroundGapExpiry p) s = .next s)

/-- RXD at a port (R5, R9, R17, R18): on an IDLE port an ARMED monitor times a low level, a high level arms it, and a low of 2
character times is one line call, which sets call-pending or, while the engine is STOPPED, raises LINE-CALL. In a reply window a
high-to-low change starts a character under the settings as they stand, and inside one it is a data bit (R1; MODEL'S CHOICE, log
entry 15). Elsewhere the level alone changes; a level the pin already has, and an expiry outside TIMING, change nothing (MODEL'S
CHOICE, log entry 3). -/
def Obligations.LineMonitorCountsCalls : Prop :=
  ∀ (s : State) (p : PortId),
    let x := s.port p
    let user := engineFor s.arrangement p
    let low : (Port → Port) → State := fun f => s.withPort p fun y => f { y with rxd := .low }
    let high : (Port → Port) → State := fun f => s.withPort p fun y => f { y with rxd := .high, rxBreak := false }
    let window := (∃ a b, x.phase = .awaiting a b) ∨ (∃ a cs, x.phase = .receiving a cs) ∨ (∃ a n, x.phase = .discarding a n)
    (x.rxd = .low → exec (.lineLow p) s = .next s) ∧
    (x.rxd = .high → exec (.lineHigh p) s = .next s) ∧
    (x.rxd = .high →
      (x.phase = .idle → exec (.lineLow p) s = .next (low fun y => if x.monitor = .armed then
        { y with monitor := .timing, interval := some (x.settings.interval .lineCall) } else y)) ∧
      (x.phase = .turnaround ∨ (∃ a, x.phase = .sending a) → exec (.lineLow p) s = .next (low id)) ∧
      (window → x.rxBreak = true → exec (.lineLow p) s = .next (low id)) ∧
      (window → x.rxBreak = false →
        let begun : Port → Port := fun y => { y with rxChar := some (match x.rxChar with
          | some f => f
          | none => ⟨x.settings.rate, x.settings.parity, x.settings.stopBits⟩) }
        exec (.lineLow p) s = .next (low fun y => match x.phase with
          | .awaiting _ expired => if expired then y else begun y
          | _ => { begun y with interval := none }))) ∧
    (x.rxd = .low →
      (x.phase = .idle → exec (.lineHigh p) s = .next (high fun y => match x.monitor with
        | .timing => { y with monitor := .armed, interval := none }
        | .waitHigh => { y with monitor := .armed }
        | _ => y)) ∧
      (x.phase ≠ .idle → exec (.lineHigh p) s = .next (high id))) ∧
    (x.monitor ≠ .timing → exec (.lineMonitorTimerExpiry p) s = .next s) ∧
    (x.monitor = .timing →
      let u := s.withPort p fun y => { y with monitor := .waitHigh, interval := none }
      exec (.lineMonitorTimerExpiry p) s = .next (if (s.engine user).run = .stopped then u.raise (.lineCall user p)
        else u.withEngine user fun en => { en with callPending := true }))

/-- The end of a FIXED READ, from the reply's last characters on, as REPLY_FRAME_COMPLETE carries them (MODEL'S CHOICE, log entry
11), on a line that brings them (R5; MODEL'S CHOICE, log entry 15) (R70, R122, R27): a GOOD reply's words stand in the half of the
captured pair that was its fill half, whatever the flip then does; every other word of the pair is kept; the station is ONLINE with
its status, contact and line; its transaction is over; and the port keeps its turnaround gap. No other pair changes. -/
def Obligations.GoodFixedReadIsDelivered : Prop :=
  ∀ (s : State) (p : PortId) (e : Engine) (t : Transaction) (n : Fin 128) (f : FixedFields) (chars rest : List Byte)
    (status count : Byte) (words : List Word),
    let a : Attempt := ⟨e, t.request, t.expected⟩
    let covered := [t.request.address, status, count] ++ wordsBytes words
    (s.engine e).activity = .inTransaction t → t.source = .fixed n f → t.subject = f.station → t.request.kind = .read →
    (s.port p).phase = .receiving a chars → chars ≠ [] → rest ≠ [] →
    (s.port p).rxBreak = false → (s.port p).rxChar ≠ none ∨ (s.port p).rxd = .high →
    chars ++ rest = 0x5A :: (covered ++ wordBytes (frameCheck covered)) →
    words.length = count.toNat → count.toNat ≤ 16 → count.toNat = t.expected → f.wordOffset.val + words.length ≤ 128 →
    status.toNat % 4 ≠ 3 → status.getLsbD 2 = false →
    ∃ u, exec (.replyFrameComplete p rest) s = .next u ∧
      (let old := match (s.pair f.pair).working with
          | .zero => (s.pair f.pair).half0
          | .one => (s.pair f.pair).half1
        let new := match (s.pair f.pair).working with
          | .zero => (u.pair f.pair).half0
          | .one => (u.pair f.pair).half1
        ∀ k : Fin 128, new[k] = if f.wordOffset.val ≤ k.val then
          (words[k.val - f.wordOffset.val]?).getD old[k] else old[k]) ∧
      (match (s.pair f.pair).working with
        | .zero => (u.pair f.pair).half1 = (s.pair f.pair).half1
        | .one => (u.pair f.pair).half0 = (s.pair f.pair).half0) ∧
      (u.pair f.pair).captureStamp = s.time ∧ (∀ q, q ≠ f.pair → u.pair q = s.pair q) ∧
      (u.station f.station).health = .online ∧ (u.station f.station).failCount = 0 ∧
      (u.station f.station).line = p ∧ (u.station f.station).lastContact = s.time ∧
      (u.station f.station).last.busy = false ∧ (u.station f.station).last.fault = status.getLsbD 3 ∧
      (u.station f.station).last.cls.val = status.toNat % 4 ∧
      (u.station f.station).inTransaction = none ∧
      (u.port p).phase = .turnaround ∧ u.port p.other = s.port p.other ∧
      (∀ i, i ≠ f.station → u.station i = s.station i ∧ u.attn i = s.attn i) ∧
      u.descriptors = s.descriptors ∧ u.stack = s.stack ∧ ((s.engine e).run = .running → (u.engine e).activity = .gap p)

/-! ### What every step keeps -/

/-- Every step keeps the capacities and ranges of the tables: the queues (seventh law), health with its fail count (third law),
the host half states (R115), the configuration: port settings, banks, stations without an address twice in one scope, and
descriptors whose transfers fit a half (R1, R19, R21, R36, R37, R102, R110), and PAIRED without Engine B (twelfth law). -/
def Obligations.EveryStepKeepsTheTables : Prop :=
  ∀ s t : State, s.TablesSound → step s = .next t → t.TablesSound

/-- Every step keeps the service stack (fifth law, R134): at most 4 entries, HELD exactly the stations on it, each once, at levels
that rise strictly from bottom to top; and every record's level and class with its state (R82). -/
def Obligations.EveryStepKeepsTheStack : Prop :=
  ∀ s t : State, s.ServiceSound → step s = .next t → t.ServiceSound

/-- Every step keeps the region's canonical form; the eleventh law (R160, R161): VALID with the controller IDLE exactly when the
start-up check of the region gives IMAGE, and INVALID with no marker while an operation works, whose pages so far hold its snapshot,
up to the completed marker page; request buffers that hold no frame longer than the link carries (R147); a transmitter that is free
only when nothing waits (R151); and each port in agreement with its phase: the line monitor SUSPENDED exactly outside IDLE, a frame
leaving exactly in SENDING, the receiver at work in a reply window alone (1.5). The ranges of the configuration, which every step
keeps, are a premise: a save copies it. That a cancelled marker page holds no marker is log entry 21, and the bytes of a torn page
are free values (log entry 8). -/
def Obligations.EveryStepKeepsStoreLinkAndPorts : Prop :=
  ∀ s t : State, s.TablesSound → s.UnitsSound → step s = .next t → t.UnitsSound

/-- HEADLINE. Every step keeps the attention law (fourth law, R92) with what it rests on: a transaction in flight has no final
outcome, attempts that remain of its 1 to 4, and no more reply statuses than attempts made (R64); its subject is enabled, in its
engine's scope and marked with it, a transfer holds its claim (first and second law), and conversely a station so marked is that
subject and a claim is held by its engine's transfer in flight (R26, R103), so that a STOPPED engine, which does nothing, has
neither (R114). A disabled station is CLEAR, an OFFLINE one CLEAR or HELD. The stack's law, which every step keeps, is a
premise. -/
def Obligations.EveryStepKeepsTheAttentionLaw : Prop :=
  ∀ s t : State, s.ServiceSound → s.AttentionSound → step s = .next t → t.AttentionSound

/-- The part after reset meets the laws that every step keeps. Where the spec gives no reset value, State.reset has the model's own:
the pins' levels (log entry 6), an erased region (log entry 7) with its count of free values 0 (log entry 8), and the cycle number
and bank of an absent summary (log entry 13). -/
def Obligations.ResetMeetsEveryLaw : Prop :=
  State.reset.TablesSound ∧ State.reset.ServiceSound ∧ State.reset.UnitsSound ∧ State.reset.AttentionSound

end Statements
end

