-- ==== Sys2Proof/Laws/Bytes.lean ====
section
/-!
SUPPORT. The operand forms taken apart and put together again: byte order, the codes of 11.2, and the records of 11.3.
-/

namespace Sys2Proof.Machine

/-! ### Byte order -/

@[simp] theorem wordOf_wordBytes (w : Word) : wordOf (w.extractLsb' 8 8) (w.extractLsb' 0 8) = w := by
  apply BitVec.eq_of_getLsbD_eq
  intro i hi
  unfold wordOf
  rw [BitVec.getLsbD_append]
  split
  · simp only [BitVec.getLsbD_extractLsb', *]; simp
  · rename_i h
    have e : 8 + (i - 8) = i := by omega
    have g : i - 8 < 8 := by omega
    simp [e, g]

@[simp] theorem wordBytes_wordOf (hi lo : Byte) : wordBytes (wordOf hi lo) = [hi, lo] := by
  simp only [wordBytes, List.cons.injEq, and_true]
  constructor <;>
    (apply BitVec.eq_of_getLsbD_eq
     intro i h
     unfold wordOf
     rw [BitVec.getLsbD_extractLsb', BitVec.getLsbD_append]
     simp [h])

@[simp] theorem stampOf_stampBytes (t : Stamp) :
    stampOf (t.extractLsb' 24 8) (t.extractLsb' 16 8) (t.extractLsb' 8 8) (t.extractLsb' 0 8) = t := by
  apply BitVec.eq_of_getLsbD_eq
  intro i hi
  unfold stampOf
  rw [BitVec.getLsbD_append]
  split
  · rename_i h; simp [h]
  · rw [BitVec.getLsbD_append]
    split
    · rename_i h1 h2
      have e : 8 + (i - 8) = i := by omega
      simp [h2, e]
    · rw [BitVec.getLsbD_append]
      split
      · rename_i h1 h2 h3
        have e : 16 + (i - 8 - 8) = i := by omega
        simp [h3, e]
      · rename_i h1 h2 h3
        have e : 24 + (i - 8 - 8 - 8) = i := by omega
        have g : i - 8 - 8 - 8 < 8 := by omega
        simp [g, e]

@[simp] theorem wordsOf_wordsBytes (ws : List Word) : wordsOf (wordsBytes ws) = some ws := by
  induction ws with
  | nil => rfl
  | cons w ws ih =>
    have : wordsBytes (w :: ws) = w.extractLsb' 8 8 :: w.extractLsb' 0 8 :: wordsBytes ws := rfl
    rw [this, wordsOf, ih]; simp

@[simp] theorem length_wordsBytes (ws : List Word) : (wordsBytes ws).length = 2 * ws.length := by
  induction ws with
  | nil => rfl
  | cons w ws ih =>
    have : wordsBytes (w :: ws) = w.extractLsb' 8 8 :: w.extractLsb' 0 8 :: wordsBytes ws := rfl
    rw [this]; simp only [List.length_cons, ih]; omega

/-! ### Codes -/

@[simp] theorem toNat_byteOf (n : Nat) : (byteOf n).toNat = n % 256 := by simp [byteOf]

theorem finOf_byteOf {n : Nat} (i : Fin n) (h : n ≤ 256) : finOf n (byteOf i.val) = some i := by
  have hi : i.val % 256 = i.val := Nat.mod_eq_of_lt (by omega)
  simp [finOf, hi]

theorem finOf_eq_none {n : Nat} {b : Byte} (h : n ≤ b.toNat) : finOf n b = none := by
  simp only [finOf]; rw [dif_neg (by omega)]

theorem byteOf_of_finOf {n : Nat} {b : Byte} {i : Fin n} (h : finOf n b = some i) : b = byteOf i.val := by
  simp only [finOf] at h
  split at h
  · injection h with h; subst h; simp [byteOf]
  · cases h

@[simp] theorem sideOf_code (x : Side) : sideOf (sideCode x) = some x := by cases x <;> rfl
@[simp] theorem bankOf_code (b : BankId) : bankOf b.code = some b := by cases b <;> rfl
@[simp] theorem arrangementOf_code (x : Arrangement) : arrangementOf x.code = some x := by cases x <;> rfl
@[simp] theorem directionOf_code (x : Direction) : directionOf x.code = some x := by cases x <;> rfl
@[simp] theorem parityOf_code (x : Parity) : parityOf x.code = some x := by cases x <;> rfl
@[simp] theorem stopBitsOf_code (x : StopBits) : stopBitsOf x.code = some x := by cases x <;> rfl
@[simp] theorem stopModeOf_code (x : StopMode) : stopModeOf x.code = some x := by cases x <;> rfl
@[simp] theorem pollKindOf_code (x : PollKind) : pollKindOf x.code = some x := by cases x <;> rfl
@[simp] theorem xferKindOf_code (x : XferKind) : xferKindOf x.code = some x := by cases x <;> rfl
@[simp] theorem boolOf_boolByte (x : Bool) : boolOf (boolByte x) = some x := by cases x <;> rfl

/-- A byte above 1 is no side, bank, arrangement, direction or yes/no code. -/
theorem two_le_ne {b : Byte} (h : 1 < b.toNat) : b ≠ 0 ∧ b ≠ 1 := by
  constructor <;> (intro e; rw [e] at h; revert h; decide)

theorem sideOf_eq_none {b : Byte} (h : 1 < b.toNat) : sideOf b = none := by
  rw [sideOf, if_neg (two_le_ne h).1, if_neg (two_le_ne h).2]
theorem bankOf_eq_none {b : Byte} (h : 1 < b.toNat) : bankOf b = none := by
  rw [bankOf, if_neg (two_le_ne h).1, if_neg (two_le_ne h).2]
theorem arrangementOf_eq_none {b : Byte} (h : 1 < b.toNat) : arrangementOf b = none := by
  rw [arrangementOf, if_neg (two_le_ne h).1, if_neg (two_le_ne h).2]
theorem directionOf_eq_none {b : Byte} (h : 1 < b.toNat) : directionOf b = none := by
  rw [directionOf, if_neg (two_le_ne h).1, if_neg (two_le_ne h).2]
theorem boolOf_eq_none {b : Byte} (h : 1 < b.toNat) : boolOf b = none := by
  rw [boolOf, if_neg (two_le_ne h).1, if_neg (two_le_ne h).2]

/-! ### Records -/

/-- A settings record that is in range is read back as it was written (11.3). -/
theorem PortSettings.ofBytes_toBytes (c : PortSettings) (h : 1 ≤ c.gap.toNat ∧ c.gap.toNat ≤ 16) :
    PortSettings.ofBytes c.toBytes = some c := by
  simp only [PortSettings.toBytes, PortSettings.ofBytes, finOf_byteOf c.rate (by omega), parityOf_code, stopBitsOf_code,
    finOf_byteOf c.replyTimeout (by omega)]
  rw [if_pos h]

/-- A bank header that is in range is read back as it was written. -/
theorem BankHeader.ofBytes_toBytes (c : BankHeader) (h : 10 ≤ c.period.toNat) : BankHeader.ofBytes c.toBytes = some c := by
  simp only [BankHeader.toBytes, BankHeader.ofBytes, wordBytes, List.cons_append, List.nil_append,
    finOf_byteOf c.slotCount (by omega), wordOf_wordBytes]
  rw [if_pos h]

end Sys2Proof.Machine
end

