-- ==== Sys2Proof/Laws/State.lean ====
section
/-!
SUPPORT. One lemma per field per record update of State, each true by computation, and what the readers of records give
after them.
-/

namespace Sys2Proof.Machine

/-! ### withEngine -/

@[simp] theorem State.withEngine_pending (s : State) (e : Engine) (g : EngineState → EngineState) :
    (s.withEngine e g).pending = s.pending := by cases e <;> rfl
@[simp] theorem State.withEngine_lr1 (s : State) (e : Engine) (g : EngineState → EngineState) :
    (s.withEngine e g).lr1 = s.lr1 := by cases e <;> rfl
@[simp] theorem State.withEngine_lr0 (s : State) (e : Engine) (g : EngineState → EngineState) :
    (s.withEngine e g).lr0 = s.lr0 := by cases e <;> rfl
@[simp] theorem State.withEngine_storeWp (s : State) (e : Engine) (g : EngineState → EngineState) :
    (s.withEngine e g).storeWp = s.storeWp := by cases e <;> rfl
@[simp] theorem State.withEngine_time (s : State) (e : Engine) (g : EngineState → EngineState) :
    (s.withEngine e g).time = s.time := by cases e <;> rfl
@[simp] theorem State.withEngine_linkRate (s : State) (e : Engine) (g : EngineState → EngineState) :
    (s.withEngine e g).linkRate = s.linkRate := by cases e <;> rfl
@[simp] theorem State.withEngine_rx (s : State) (e : Engine) (g : EngineState → EngineState) :
    (s.withEngine e g).rx = s.rx := by cases e <;> rfl
@[simp] theorem State.withEngine_processing (s : State) (e : Engine) (g : EngineState → EngineState) :
    (s.withEngine e g).processing = s.processing := by cases e <;> rfl
@[simp] theorem State.withEngine_held (s : State) (e : Engine) (g : EngineState → EngineState) :
    (s.withEngine e g).held = s.held := by cases e <;> rfl
@[simp] theorem State.withEngine_replySlot (s : State) (e : Engine) (g : EngineState → EngineState) :
    (s.withEngine e g).replySlot = s.replySlot := by cases e <;> rfl
@[simp] theorem State.withEngine_tx (s : State) (e : Engine) (g : EngineState → EngineState) :
    (s.withEngine e g).tx = s.tx := by cases e <;> rfl
@[simp] theorem State.withEngine_notices (s : State) (e : Engine) (g : EngineState → EngineState) :
    (s.withEngine e g).notices = s.notices := by cases e <;> rfl
@[simp] theorem State.withEngine_overrun (s : State) (e : Engine) (g : EngineState → EngineState) :
    (s.withEngine e g).overrun = s.overrun := by cases e <;> rfl
@[simp] theorem State.withEngine_arrangement (s : State) (e : Engine) (g : EngineState → EngineState) :
    (s.withEngine e g).arrangement = s.arrangement := by cases e <;> rfl
@[simp] theorem State.withEngine_mask (s : State) (e : Engine) (g : EngineState → EngineState) :
    (s.withEngine e g).mask = s.mask := by cases e <;> rfl
@[simp] theorem State.withEngine_demandLevel (s : State) (e : Engine) (g : EngineState → EngineState) :
    (s.withEngine e g).demandLevel = s.demandLevel := by cases e <;> rfl
@[simp] theorem State.withEngine_enables (s : State) (e : Engine) (g : EngineState → EngineState) :
    (s.withEngine e g).enables = s.enables := by cases e <;> rfl
@[simp] theorem State.withEngine_stations (s : State) (e : Engine) (g : EngineState → EngineState) :
    (s.withEngine e g).stations = s.stations := by cases e <;> rfl
@[simp] theorem State.withEngine_attention (s : State) (e : Engine) (g : EngineState → EngineState) :
    (s.withEngine e g).attention = s.attention := by cases e <;> rfl
@[simp] theorem State.withEngine_stack (s : State) (e : Engine) (g : EngineState → EngineState) :
    (s.withEngine e g).stack = s.stack := by cases e <;> rfl
@[simp] theorem State.withEngine_descriptors (s : State) (e : Engine) (g : EngineState → EngineState) :
    (s.withEngine e g).descriptors = s.descriptors := by cases e <;> rfl
@[simp] theorem State.withEngine_claims (s : State) (e : Engine) (g : EngineState → EngineState) :
    (s.withEngine e g).claims = s.claims := by cases e <;> rfl
@[simp] theorem State.withEngine_pairs (s : State) (e : Engine) (g : EngineState → EngineState) :
    (s.withEngine e g).pairs = s.pairs := by cases e <;> rfl
@[simp] theorem State.withEngine_portA (s : State) (e : Engine) (g : EngineState → EngineState) :
    (s.withEngine e g).portA = s.portA := by cases e <;> rfl
@[simp] theorem State.withEngine_portB (s : State) (e : Engine) (g : EngineState → EngineState) :
    (s.withEngine e g).portB = s.portB := by cases e <;> rfl
@[simp] theorem State.withEngine_region (s : State) (e : Engine) (g : EngineState → EngineState) :
    (s.withEngine e g).region = s.region := by cases e <;> rfl
@[simp] theorem State.withEngine_imageState (s : State) (e : Engine) (g : EngineState → EngineState) :
    (s.withEngine e g).imageState = s.imageState := by cases e <;> rfl
@[simp] theorem State.withEngine_startSource (s : State) (e : Engine) (g : EngineState → EngineState) :
    (s.withEngine e g).startSource = s.startSource := by cases e <;> rfl
@[simp] theorem State.withEngine_store (s : State) (e : Engine) (g : EngineState → EngineState) :
    (s.withEngine e g).store = s.store := by cases e <;> rfl

/-! ### withPort -/

@[simp] theorem State.withPort_pending (s : State) (p : PortId) (g : Port → Port) :
    (s.withPort p g).pending = s.pending := by cases p <;> rfl
@[simp] theorem State.withPort_lr1 (s : State) (p : PortId) (g : Port → Port) :
    (s.withPort p g).lr1 = s.lr1 := by cases p <;> rfl
@[simp] theorem State.withPort_lr0 (s : State) (p : PortId) (g : Port → Port) :
    (s.withPort p g).lr0 = s.lr0 := by cases p <;> rfl
@[simp] theorem State.withPort_storeWp (s : State) (p : PortId) (g : Port → Port) :
    (s.withPort p g).storeWp = s.storeWp := by cases p <;> rfl
@[simp] theorem State.withPort_time (s : State) (p : PortId) (g : Port → Port) :
    (s.withPort p g).time = s.time := by cases p <;> rfl
@[simp] theorem State.withPort_linkRate (s : State) (p : PortId) (g : Port → Port) :
    (s.withPort p g).linkRate = s.linkRate := by cases p <;> rfl
@[simp] theorem State.withPort_rx (s : State) (p : PortId) (g : Port → Port) :
    (s.withPort p g).rx = s.rx := by cases p <;> rfl
@[simp] theorem State.withPort_processing (s : State) (p : PortId) (g : Port → Port) :
    (s.withPort p g).processing = s.processing := by cases p <;> rfl
@[simp] theorem State.withPort_held (s : State) (p : PortId) (g : Port → Port) :
    (s.withPort p g).held = s.held := by cases p <;> rfl
@[simp] theorem State.withPort_replySlot (s : State) (p : PortId) (g : Port → Port) :
    (s.withPort p g).replySlot = s.replySlot := by cases p <;> rfl
@[simp] theorem State.withPort_tx (s : State) (p : PortId) (g : Port → Port) :
    (s.withPort p g).tx = s.tx := by cases p <;> rfl
@[simp] theorem State.withPort_notices (s : State) (p : PortId) (g : Port → Port) :
    (s.withPort p g).notices = s.notices := by cases p <;> rfl
@[simp] theorem State.withPort_overrun (s : State) (p : PortId) (g : Port → Port) :
    (s.withPort p g).overrun = s.overrun := by cases p <;> rfl
@[simp] theorem State.withPort_arrangement (s : State) (p : PortId) (g : Port → Port) :
    (s.withPort p g).arrangement = s.arrangement := by cases p <;> rfl
@[simp] theorem State.withPort_mask (s : State) (p : PortId) (g : Port → Port) :
    (s.withPort p g).mask = s.mask := by cases p <;> rfl
@[simp] theorem State.withPort_demandLevel (s : State) (p : PortId) (g : Port → Port) :
    (s.withPort p g).demandLevel = s.demandLevel := by cases p <;> rfl
@[simp] theorem State.withPort_enables (s : State) (p : PortId) (g : Port → Port) :
    (s.withPort p g).enables = s.enables := by cases p <;> rfl
@[simp] theorem State.withPort_stations (s : State) (p : PortId) (g : Port → Port) :
    (s.withPort p g).stations = s.stations := by cases p <;> rfl
@[simp] theorem State.withPort_attention (s : State) (p : PortId) (g : Port → Port) :
    (s.withPort p g).attention = s.attention := by cases p <;> rfl
@[simp] theorem State.withPort_stack (s : State) (p : PortId) (g : Port → Port) :
    (s.withPort p g).stack = s.stack := by cases p <;> rfl
@[simp] theorem State.withPort_descriptors (s : State) (p : PortId) (g : Port → Port) :
    (s.withPort p g).descriptors = s.descriptors := by cases p <;> rfl
@[simp] theorem State.withPort_claims (s : State) (p : PortId) (g : Port → Port) :
    (s.withPort p g).claims = s.claims := by cases p <;> rfl
@[simp] theorem State.withPort_pairs (s : State) (p : PortId) (g : Port → Port) :
    (s.withPort p g).pairs = s.pairs := by cases p <;> rfl
@[simp] theorem State.withPort_engineA (s : State) (p : PortId) (g : Port → Port) :
    (s.withPort p g).engineA = s.engineA := by cases p <;> rfl
@[simp] theorem State.withPort_engineB (s : State) (p : PortId) (g : Port → Port) :
    (s.withPort p g).engineB = s.engineB := by cases p <;> rfl
@[simp] theorem State.withPort_region (s : State) (p : PortId) (g : Port → Port) :
    (s.withPort p g).region = s.region := by cases p <;> rfl
@[simp] theorem State.withPort_imageState (s : State) (p : PortId) (g : Port → Port) :
    (s.withPort p g).imageState = s.imageState := by cases p <;> rfl
@[simp] theorem State.withPort_startSource (s : State) (p : PortId) (g : Port → Port) :
    (s.withPort p g).startSource = s.startSource := by cases p <;> rfl
@[simp] theorem State.withPort_store (s : State) (p : PortId) (g : Port → Port) :
    (s.withPort p g).store = s.store := by cases p <;> rfl

/-! ### withStation -/

@[simp] theorem State.withStation_pending (s : State) (i : Fin 64) (g : Station → Station) :
    (s.withStation i g).pending = s.pending := rfl
@[simp] theorem State.withStation_lr1 (s : State) (i : Fin 64) (g : Station → Station) :
    (s.withStation i g).lr1 = s.lr1 := rfl
@[simp] theorem State.withStation_lr0 (s : State) (i : Fin 64) (g : Station → Station) :
    (s.withStation i g).lr0 = s.lr0 := rfl
@[simp] theorem State.withStation_storeWp (s : State) (i : Fin 64) (g : Station → Station) :
    (s.withStation i g).storeWp = s.storeWp := rfl
@[simp] theorem State.withStation_time (s : State) (i : Fin 64) (g : Station → Station) :
    (s.withStation i g).time = s.time := rfl
@[simp] theorem State.withStation_linkRate (s : State) (i : Fin 64) (g : Station → Station) :
    (s.withStation i g).linkRate = s.linkRate := rfl
@[simp] theorem State.withStation_rx (s : State) (i : Fin 64) (g : Station → Station) : (s.withStation i g).rx = s.rx := rfl
@[simp] theorem State.withStation_processing (s : State) (i : Fin 64) (g : Station → Station) :
    (s.withStation i g).processing = s.processing := rfl
@[simp] theorem State.withStation_held (s : State) (i : Fin 64) (g : Station → Station) :
    (s.withStation i g).held = s.held := rfl
@[simp] theorem State.withStation_replySlot (s : State) (i : Fin 64) (g : Station → Station) :
    (s.withStation i g).replySlot = s.replySlot := rfl
@[simp] theorem State.withStation_tx (s : State) (i : Fin 64) (g : Station → Station) : (s.withStation i g).tx = s.tx := rfl
@[simp] theorem State.withStation_notices (s : State) (i : Fin 64) (g : Station → Station) :
    (s.withStation i g).notices = s.notices := rfl
@[simp] theorem State.withStation_overrun (s : State) (i : Fin 64) (g : Station → Station) :
    (s.withStation i g).overrun = s.overrun := rfl
@[simp] theorem State.withStation_arrangement (s : State) (i : Fin 64) (g : Station → Station) :
    (s.withStation i g).arrangement = s.arrangement := rfl
@[simp] theorem State.withStation_mask (s : State) (i : Fin 64) (g : Station → Station) :
    (s.withStation i g).mask = s.mask := rfl
@[simp] theorem State.withStation_demandLevel (s : State) (i : Fin 64) (g : Station → Station) :
    (s.withStation i g).demandLevel = s.demandLevel := rfl
@[simp] theorem State.withStation_enables (s : State) (i : Fin 64) (g : Station → Station) :
    (s.withStation i g).enables = s.enables := rfl
@[simp] theorem State.withStation_attention (s : State) (i : Fin 64) (g : Station → Station) :
    (s.withStation i g).attention = s.attention := rfl
@[simp] theorem State.withStation_stack (s : State) (i : Fin 64) (g : Station → Station) :
    (s.withStation i g).stack = s.stack := rfl
@[simp] theorem State.withStation_descriptors (s : State) (i : Fin 64) (g : Station → Station) :
    (s.withStation i g).descriptors = s.descriptors := rfl
@[simp] theorem State.withStation_claims (s : State) (i : Fin 64) (g : Station → Station) :
    (s.withStation i g).claims = s.claims := rfl
@[simp] theorem State.withStation_pairs (s : State) (i : Fin 64) (g : Station → Station) :
    (s.withStation i g).pairs = s.pairs := rfl
@[simp] theorem State.withStation_portA (s : State) (i : Fin 64) (g : Station → Station) :
    (s.withStation i g).portA = s.portA := rfl
@[simp] theorem State.withStation_portB (s : State) (i : Fin 64) (g : Station → Station) :
    (s.withStation i g).portB = s.portB := rfl
@[simp] theorem State.withStation_engineA (s : State) (i : Fin 64) (g : Station → Station) :
    (s.withStation i g).engineA = s.engineA := rfl
@[simp] theorem State.withStation_engineB (s : State) (i : Fin 64) (g : Station → Station) :
    (s.withStation i g).engineB = s.engineB := rfl
@[simp] theorem State.withStation_region (s : State) (i : Fin 64) (g : Station → Station) :
    (s.withStation i g).region = s.region := rfl
@[simp] theorem State.withStation_imageState (s : State) (i : Fin 64) (g : Station → Station) :
    (s.withStation i g).imageState = s.imageState := rfl
@[simp] theorem State.withStation_startSource (s : State) (i : Fin 64) (g : Station → Station) :
    (s.withStation i g).startSource = s.startSource := rfl
@[simp] theorem State.withStation_store (s : State) (i : Fin 64) (g : Station → Station) :
    (s.withStation i g).store = s.store := rfl

/-! ### setAttn -/

@[simp] theorem State.setAttn_pending (s : State) (i : Fin 64) (r : Attention) : (s.setAttn i r).pending = s.pending := rfl
@[simp] theorem State.setAttn_lr1 (s : State) (i : Fin 64) (r : Attention) : (s.setAttn i r).lr1 = s.lr1 := rfl
@[simp] theorem State.setAttn_lr0 (s : State) (i : Fin 64) (r : Attention) : (s.setAttn i r).lr0 = s.lr0 := rfl
@[simp] theorem State.setAttn_storeWp (s : State) (i : Fin 64) (r : Attention) : (s.setAttn i r).storeWp = s.storeWp := rfl
@[simp] theorem State.setAttn_time (s : State) (i : Fin 64) (r : Attention) : (s.setAttn i r).time = s.time := rfl
@[simp] theorem State.setAttn_linkRate (s : State) (i : Fin 64) (r : Attention) :
    (s.setAttn i r).linkRate = s.linkRate := rfl
@[simp] theorem State.setAttn_rx (s : State) (i : Fin 64) (r : Attention) : (s.setAttn i r).rx = s.rx := rfl
@[simp] theorem State.setAttn_processing (s : State) (i : Fin 64) (r : Attention) :
    (s.setAttn i r).processing = s.processing := rfl
@[simp] theorem State.setAttn_held (s : State) (i : Fin 64) (r : Attention) : (s.setAttn i r).held = s.held := rfl
@[simp] theorem State.setAttn_replySlot (s : State) (i : Fin 64) (r : Attention) :
    (s.setAttn i r).replySlot = s.replySlot := rfl
@[simp] theorem State.setAttn_tx (s : State) (i : Fin 64) (r : Attention) : (s.setAttn i r).tx = s.tx := rfl
@[simp] theorem State.setAttn_notices (s : State) (i : Fin 64) (r : Attention) : (s.setAttn i r).notices = s.notices := rfl
@[simp] theorem State.setAttn_overrun (s : State) (i : Fin 64) (r : Attention) : (s.setAttn i r).overrun = s.overrun := rfl
@[simp] theorem State.setAttn_arrangement (s : State) (i : Fin 64) (r : Attention) :
    (s.setAttn i r).arrangement = s.arrangement := rfl
@[simp] theorem State.setAttn_mask (s : State) (i : Fin 64) (r : Attention) : (s.setAttn i r).mask = s.mask := rfl
@[simp] theorem State.setAttn_demandLevel (s : State) (i : Fin 64) (r : Attention) :
    (s.setAttn i r).demandLevel = s.demandLevel := rfl
@[simp] theorem State.setAttn_enables (s : State) (i : Fin 64) (r : Attention) : (s.setAttn i r).enables = s.enables := rfl
@[simp] theorem State.setAttn_stations (s : State) (i : Fin 64) (r : Attention) :
    (s.setAttn i r).stations = s.stations := rfl
@[simp] theorem State.setAttn_stack (s : State) (i : Fin 64) (r : Attention) : (s.setAttn i r).stack = s.stack := rfl
@[simp] theorem State.setAttn_descriptors (s : State) (i : Fin 64) (r : Attention) :
    (s.setAttn i r).descriptors = s.descriptors := rfl
@[simp] theorem State.setAttn_claims (s : State) (i : Fin 64) (r : Attention) : (s.setAttn i r).claims = s.claims := rfl
@[simp] theorem State.setAttn_pairs (s : State) (i : Fin 64) (r : Attention) : (s.setAttn i r).pairs = s.pairs := rfl
@[simp] theorem State.setAttn_portA (s : State) (i : Fin 64) (r : Attention) : (s.setAttn i r).portA = s.portA := rfl
@[simp] theorem State.setAttn_portB (s : State) (i : Fin 64) (r : Attention) : (s.setAttn i r).portB = s.portB := rfl
@[simp] theorem State.setAttn_engineA (s : State) (i : Fin 64) (r : Attention) : (s.setAttn i r).engineA = s.engineA := rfl
@[simp] theorem State.setAttn_engineB (s : State) (i : Fin 64) (r : Attention) : (s.setAttn i r).engineB = s.engineB := rfl
@[simp] theorem State.setAttn_region (s : State) (i : Fin 64) (r : Attention) : (s.setAttn i r).region = s.region := rfl
@[simp] theorem State.setAttn_imageState (s : State) (i : Fin 64) (r : Attention) :
    (s.setAttn i r).imageState = s.imageState := rfl
@[simp] theorem State.setAttn_startSource (s : State) (i : Fin 64) (r : Attention) :
    (s.setAttn i r).startSource = s.startSource := rfl
@[simp] theorem State.setAttn_store (s : State) (i : Fin 64) (r : Attention) : (s.setAttn i r).store = s.store := rfl

/-! ### setDescriptor -/

@[simp] theorem State.setDescriptor_pending (s : State) (d : Fin 32) (r : Descriptor) :
    (s.setDescriptor d r).pending = s.pending := rfl
@[simp] theorem State.setDescriptor_lr1 (s : State) (d : Fin 32) (r : Descriptor) : (s.setDescriptor d r).lr1 = s.lr1 := rfl
@[simp] theorem State.setDescriptor_lr0 (s : State) (d : Fin 32) (r : Descriptor) : (s.setDescriptor d r).lr0 = s.lr0 := rfl
@[simp] theorem State.setDescriptor_storeWp (s : State) (d : Fin 32) (r : Descriptor) :
    (s.setDescriptor d r).storeWp = s.storeWp := rfl
@[simp] theorem State.setDescriptor_time (s : State) (d : Fin 32) (r : Descriptor) :
    (s.setDescriptor d r).time = s.time := rfl
@[simp] theorem State.setDescriptor_linkRate (s : State) (d : Fin 32) (r : Descriptor) :
    (s.setDescriptor d r).linkRate = s.linkRate := rfl
@[simp] theorem State.setDescriptor_rx (s : State) (d : Fin 32) (r : Descriptor) : (s.setDescriptor d r).rx = s.rx := rfl
@[simp] theorem State.setDescriptor_processing (s : State) (d : Fin 32) (r : Descriptor) :
    (s.setDescriptor d r).processing = s.processing := rfl
@[simp] theorem State.setDescriptor_held (s : State) (d : Fin 32) (r : Descriptor) :
    (s.setDescriptor d r).held = s.held := rfl
@[simp] theorem State.setDescriptor_replySlot (s : State) (d : Fin 32) (r : Descriptor) :
    (s.setDescriptor d r).replySlot = s.replySlot := rfl
@[simp] theorem State.setDescriptor_tx (s : State) (d : Fin 32) (r : Descriptor) : (s.setDescriptor d r).tx = s.tx := rfl
@[simp] theorem State.setDescriptor_notices (s : State) (d : Fin 32) (r : Descriptor) :
    (s.setDescriptor d r).notices = s.notices := rfl
@[simp] theorem State.setDescriptor_overrun (s : State) (d : Fin 32) (r : Descriptor) :
    (s.setDescriptor d r).overrun = s.overrun := rfl
@[simp] theorem State.setDescriptor_arrangement (s : State) (d : Fin 32) (r : Descriptor) :
    (s.setDescriptor d r).arrangement = s.arrangement := rfl
@[simp] theorem State.setDescriptor_mask (s : State) (d : Fin 32) (r : Descriptor) :
    (s.setDescriptor d r).mask = s.mask := rfl
@[simp] theorem State.setDescriptor_demandLevel (s : State) (d : Fin 32) (r : Descriptor) :
    (s.setDescriptor d r).demandLevel = s.demandLevel := rfl
@[simp] theorem State.setDescriptor_enables (s : State) (d : Fin 32) (r : Descriptor) :
    (s.setDescriptor d r).enables = s.enables := rfl
@[simp] theorem State.setDescriptor_stations (s : State) (d : Fin 32) (r : Descriptor) :
    (s.setDescriptor d r).stations = s.stations := rfl
@[simp] theorem State.setDescriptor_attention (s : State) (d : Fin 32) (r : Descriptor) :
    (s.setDescriptor d r).attention = s.attention := rfl
@[simp] theorem State.setDescriptor_stack (s : State) (d : Fin 32) (r : Descriptor) :
    (s.setDescriptor d r).stack = s.stack := rfl
@[simp] theorem State.setDescriptor_claims (s : State) (d : Fin 32) (r : Descriptor) :
    (s.setDescriptor d r).claims = s.claims := rfl
@[simp] theorem State.setDescriptor_pairs (s : State) (d : Fin 32) (r : Descriptor) :
    (s.setDescriptor d r).pairs = s.pairs := rfl
@[simp] theorem State.setDescriptor_portA (s : State) (d : Fin 32) (r : Descriptor) :
    (s.setDescriptor d r).portA = s.portA := rfl
@[simp] theorem State.setDescriptor_portB (s : State) (d : Fin 32) (r : Descriptor) :
    (s.setDescriptor d r).portB = s.portB := rfl
@[simp] theorem State.setDescriptor_engineA (s : State) (d : Fin 32) (r : Descriptor) :
    (s.setDescriptor d r).engineA = s.engineA := rfl
@[simp] theorem State.setDescriptor_engineB (s : State) (d : Fin 32) (r : Descriptor) :
    (s.setDescriptor d r).engineB = s.engineB := rfl
@[simp] theorem State.setDescriptor_region (s : State) (d : Fin 32) (r : Descriptor) :
    (s.setDescriptor d r).region = s.region := rfl
@[simp] theorem State.setDescriptor_imageState (s : State) (d : Fin 32) (r : Descriptor) :
    (s.setDescriptor d r).imageState = s.imageState := rfl
@[simp] theorem State.setDescriptor_startSource (s : State) (d : Fin 32) (r : Descriptor) :
    (s.setDescriptor d r).startSource = s.startSource := rfl
@[simp] theorem State.setDescriptor_store (s : State) (d : Fin 32) (r : Descriptor) :
    (s.setDescriptor d r).store = s.store := rfl

/-! ### setClaim -/

@[simp] theorem State.setClaim_pending (s : State) (d : Fin 32) (c : Option Engine) :
    (s.setClaim d c).pending = s.pending := rfl
@[simp] theorem State.setClaim_lr1 (s : State) (d : Fin 32) (c : Option Engine) : (s.setClaim d c).lr1 = s.lr1 := rfl
@[simp] theorem State.setClaim_lr0 (s : State) (d : Fin 32) (c : Option Engine) : (s.setClaim d c).lr0 = s.lr0 := rfl
@[simp] theorem State.setClaim_storeWp (s : State) (d : Fin 32) (c : Option Engine) :
    (s.setClaim d c).storeWp = s.storeWp := rfl
@[simp] theorem State.setClaim_time (s : State) (d : Fin 32) (c : Option Engine) : (s.setClaim d c).time = s.time := rfl
@[simp] theorem State.setClaim_linkRate (s : State) (d : Fin 32) (c : Option Engine) :
    (s.setClaim d c).linkRate = s.linkRate := rfl
@[simp] theorem State.setClaim_rx (s : State) (d : Fin 32) (c : Option Engine) : (s.setClaim d c).rx = s.rx := rfl
@[simp] theorem State.setClaim_processing (s : State) (d : Fin 32) (c : Option Engine) :
    (s.setClaim d c).processing = s.processing := rfl
@[simp] theorem State.setClaim_held (s : State) (d : Fin 32) (c : Option Engine) : (s.setClaim d c).held = s.held := rfl
@[simp] theorem State.setClaim_replySlot (s : State) (d : Fin 32) (c : Option Engine) :
    (s.setClaim d c).replySlot = s.replySlot := rfl
@[simp] theorem State.setClaim_tx (s : State) (d : Fin 32) (c : Option Engine) : (s.setClaim d c).tx = s.tx := rfl
@[simp] theorem State.setClaim_notices (s : State) (d : Fin 32) (c : Option Engine) :
    (s.setClaim d c).notices = s.notices := rfl
@[simp] theorem State.setClaim_overrun (s : State) (d : Fin 32) (c : Option Engine) :
    (s.setClaim d c).overrun = s.overrun := rfl
@[simp] theorem State.setClaim_arrangement (s : State) (d : Fin 32) (c : Option Engine) :
    (s.setClaim d c).arrangement = s.arrangement := rfl
@[simp] theorem State.setClaim_mask (s : State) (d : Fin 32) (c : Option Engine) : (s.setClaim d c).mask = s.mask := rfl
@[simp] theorem State.setClaim_demandLevel (s : State) (d : Fin 32) (c : Option Engine) :
    (s.setClaim d c).demandLevel = s.demandLevel := rfl
@[simp] theorem State.setClaim_enables (s : State) (d : Fin 32) (c : Option Engine) :
    (s.setClaim d c).enables = s.enables := rfl
@[simp] theorem State.setClaim_stations (s : State) (d : Fin 32) (c : Option Engine) :
    (s.setClaim d c).stations = s.stations := rfl
@[simp] theorem State.setClaim_attention (s : State) (d : Fin 32) (c : Option Engine) :
    (s.setClaim d c).attention = s.attention := rfl
@[simp] theorem State.setClaim_stack (s : State) (d : Fin 32) (c : Option Engine) : (s.setClaim d c).stack = s.stack := rfl
@[simp] theorem State.setClaim_descriptors (s : State) (d : Fin 32) (c : Option Engine) :
    (s.setClaim d c).descriptors = s.descriptors := rfl
@[simp] theorem State.setClaim_pairs (s : State) (d : Fin 32) (c : Option Engine) : (s.setClaim d c).pairs = s.pairs := rfl
@[simp] theorem State.setClaim_portA (s : State) (d : Fin 32) (c : Option Engine) : (s.setClaim d c).portA = s.portA := rfl
@[simp] theorem State.setClaim_portB (s : State) (d : Fin 32) (c : Option Engine) : (s.setClaim d c).portB = s.portB := rfl
@[simp] theorem State.setClaim_engineA (s : State) (d : Fin 32) (c : Option Engine) :
    (s.setClaim d c).engineA = s.engineA := rfl
@[simp] theorem State.setClaim_engineB (s : State) (d : Fin 32) (c : Option Engine) :
    (s.setClaim d c).engineB = s.engineB := rfl
@[simp] theorem State.setClaim_region (s : State) (d : Fin 32) (c : Option Engine) :
    (s.setClaim d c).region = s.region := rfl
@[simp] theorem State.setClaim_imageState (s : State) (d : Fin 32) (c : Option Engine) :
    (s.setClaim d c).imageState = s.imageState := rfl
@[simp] theorem State.setClaim_startSource (s : State) (d : Fin 32) (c : Option Engine) :
    (s.setClaim d c).startSource = s.startSource := rfl
@[simp] theorem State.setClaim_store (s : State) (d : Fin 32) (c : Option Engine) : (s.setClaim d c).store = s.store := rfl

/-! ### setPair -/

@[simp] theorem State.setPair_pending (s : State) (p : Fin 16) (r : Pair) : (s.setPair p r).pending = s.pending := rfl
@[simp] theorem State.setPair_lr1 (s : State) (p : Fin 16) (r : Pair) : (s.setPair p r).lr1 = s.lr1 := rfl
@[simp] theorem State.setPair_lr0 (s : State) (p : Fin 16) (r : Pair) : (s.setPair p r).lr0 = s.lr0 := rfl
@[simp] theorem State.setPair_storeWp (s : State) (p : Fin 16) (r : Pair) : (s.setPair p r).storeWp = s.storeWp := rfl
@[simp] theorem State.setPair_time (s : State) (p : Fin 16) (r : Pair) : (s.setPair p r).time = s.time := rfl
@[simp] theorem State.setPair_linkRate (s : State) (p : Fin 16) (r : Pair) : (s.setPair p r).linkRate = s.linkRate := rfl
@[simp] theorem State.setPair_rx (s : State) (p : Fin 16) (r : Pair) : (s.setPair p r).rx = s.rx := rfl
@[simp] theorem State.setPair_processing (s : State) (p : Fin 16) (r : Pair) :
    (s.setPair p r).processing = s.processing := rfl
@[simp] theorem State.setPair_held (s : State) (p : Fin 16) (r : Pair) : (s.setPair p r).held = s.held := rfl
@[simp] theorem State.setPair_replySlot (s : State) (p : Fin 16) (r : Pair) : (s.setPair p r).replySlot = s.replySlot := rfl
@[simp] theorem State.setPair_tx (s : State) (p : Fin 16) (r : Pair) : (s.setPair p r).tx = s.tx := rfl
@[simp] theorem State.setPair_notices (s : State) (p : Fin 16) (r : Pair) : (s.setPair p r).notices = s.notices := rfl
@[simp] theorem State.setPair_overrun (s : State) (p : Fin 16) (r : Pair) : (s.setPair p r).overrun = s.overrun := rfl
@[simp] theorem State.setPair_arrangement (s : State) (p : Fin 16) (r : Pair) :
    (s.setPair p r).arrangement = s.arrangement := rfl
@[simp] theorem State.setPair_mask (s : State) (p : Fin 16) (r : Pair) : (s.setPair p r).mask = s.mask := rfl
@[simp] theorem State.setPair_demandLevel (s : State) (p : Fin 16) (r : Pair) :
    (s.setPair p r).demandLevel = s.demandLevel := rfl
@[simp] theorem State.setPair_enables (s : State) (p : Fin 16) (r : Pair) : (s.setPair p r).enables = s.enables := rfl
@[simp] theorem State.setPair_stations (s : State) (p : Fin 16) (r : Pair) : (s.setPair p r).stations = s.stations := rfl
@[simp] theorem State.setPair_attention (s : State) (p : Fin 16) (r : Pair) : (s.setPair p r).attention = s.attention := rfl
@[simp] theorem State.setPair_stack (s : State) (p : Fin 16) (r : Pair) : (s.setPair p r).stack = s.stack := rfl
@[simp] theorem State.setPair_descriptors (s : State) (p : Fin 16) (r : Pair) :
    (s.setPair p r).descriptors = s.descriptors := rfl
@[simp] theorem State.setPair_claims (s : State) (p : Fin 16) (r : Pair) : (s.setPair p r).claims = s.claims := rfl
@[simp] theorem State.setPair_portA (s : State) (p : Fin 16) (r : Pair) : (s.setPair p r).portA = s.portA := rfl
@[simp] theorem State.setPair_portB (s : State) (p : Fin 16) (r : Pair) : (s.setPair p r).portB = s.portB := rfl
@[simp] theorem State.setPair_engineA (s : State) (p : Fin 16) (r : Pair) : (s.setPair p r).engineA = s.engineA := rfl
@[simp] theorem State.setPair_engineB (s : State) (p : Fin 16) (r : Pair) : (s.setPair p r).engineB = s.engineB := rfl
@[simp] theorem State.setPair_region (s : State) (p : Fin 16) (r : Pair) : (s.setPair p r).region = s.region := rfl
@[simp] theorem State.setPair_imageState (s : State) (p : Fin 16) (r : Pair) :
    (s.setPair p r).imageState = s.imageState := rfl
@[simp] theorem State.setPair_startSource (s : State) (p : Fin 16) (r : Pair) :
    (s.setPair p r).startSource = s.startSource := rfl
@[simp] theorem State.setPair_store (s : State) (p : Fin 16) (r : Pair) : (s.setPair p r).store = s.store := rfl

/-! ### advance -/

@[simp] theorem State.advance_pending (s : State) (us : Nat) : (s.advance us).pending = s.pending := rfl
@[simp] theorem State.advance_lr1 (s : State) (us : Nat) : (s.advance us).lr1 = s.lr1 := rfl
@[simp] theorem State.advance_lr0 (s : State) (us : Nat) : (s.advance us).lr0 = s.lr0 := rfl
@[simp] theorem State.advance_storeWp (s : State) (us : Nat) : (s.advance us).storeWp = s.storeWp := rfl
@[simp] theorem State.advance_linkRate (s : State) (us : Nat) : (s.advance us).linkRate = s.linkRate := rfl
@[simp] theorem State.advance_rx (s : State) (us : Nat) : (s.advance us).rx = s.rx := rfl
@[simp] theorem State.advance_processing (s : State) (us : Nat) : (s.advance us).processing = s.processing := rfl
@[simp] theorem State.advance_held (s : State) (us : Nat) : (s.advance us).held = s.held := rfl
@[simp] theorem State.advance_replySlot (s : State) (us : Nat) : (s.advance us).replySlot = s.replySlot := rfl
@[simp] theorem State.advance_tx (s : State) (us : Nat) :
    (s.advance us).tx = s.tx.map fun x => { x with elapsed := x.elapsed + us } := rfl
@[simp] theorem State.advance_notices (s : State) (us : Nat) : (s.advance us).notices = s.notices := rfl
@[simp] theorem State.advance_overrun (s : State) (us : Nat) : (s.advance us).overrun = s.overrun := rfl
@[simp] theorem State.advance_arrangement (s : State) (us : Nat) : (s.advance us).arrangement = s.arrangement := rfl
@[simp] theorem State.advance_mask (s : State) (us : Nat) : (s.advance us).mask = s.mask := rfl
@[simp] theorem State.advance_demandLevel (s : State) (us : Nat) : (s.advance us).demandLevel = s.demandLevel := rfl
@[simp] theorem State.advance_enables (s : State) (us : Nat) : (s.advance us).enables = s.enables := rfl
@[simp] theorem State.advance_stations (s : State) (us : Nat) : (s.advance us).stations = s.stations := rfl
@[simp] theorem State.advance_attention (s : State) (us : Nat) : (s.advance us).attention = s.attention := rfl
@[simp] theorem State.advance_stack (s : State) (us : Nat) : (s.advance us).stack = s.stack := rfl
@[simp] theorem State.advance_descriptors (s : State) (us : Nat) : (s.advance us).descriptors = s.descriptors := rfl
@[simp] theorem State.advance_claims (s : State) (us : Nat) : (s.advance us).claims = s.claims := rfl
@[simp] theorem State.advance_pairs (s : State) (us : Nat) : (s.advance us).pairs = s.pairs := rfl
@[simp] theorem State.advance_portA (s : State) (us : Nat) : (s.advance us).portA = s.portA.advance us := rfl
@[simp] theorem State.advance_portB (s : State) (us : Nat) : (s.advance us).portB = s.portB.advance us := rfl
@[simp] theorem State.advance_region (s : State) (us : Nat) : (s.advance us).region = s.region := rfl
@[simp] theorem State.advance_imageState (s : State) (us : Nat) : (s.advance us).imageState = s.imageState := rfl
@[simp] theorem State.advance_startSource (s : State) (us : Nat) : (s.advance us).startSource = s.startSource := rfl
@[simp] theorem State.advance_store (s : State) (us : Nat) : (s.advance us).store = s.store := rfl

/-! ### The readers after an update of the same record, and of another -/

@[simp] theorem State.withEngine_engine (s : State) (e : Engine) (g : EngineState → EngineState) :
    (s.withEngine e g).engine e = g (s.engine e) := by cases e <;> rfl

theorem State.withEngine_engine_other (s : State) {e x : Engine} (g : EngineState → EngineState) (h : x ≠ e) :
    (s.withEngine e g).engine x = s.engine x := by
  cases e <;> cases x <;> first | rfl | exact absurd rfl h

@[simp] theorem State.withPort_port (s : State) (p : PortId) (g : Port → Port) :
    (s.withPort p g).port p = g (s.port p) := by cases p <;> rfl

theorem State.withPort_port_other (s : State) {p x : PortId} (g : Port → Port) (h : x ≠ p) :
    (s.withPort p g).port x = s.port x := by
  cases p <;> cases x <;> first | rfl | exact absurd rfl h

@[simp] theorem State.withStation_station (s : State) (i : Fin 64) (g : Station → Station) :
    (s.withStation i g).station i = g (s.station i) := by
  simp [State.withStation, State.station]

theorem State.withStation_station_other (s : State) {i j : Fin 64} (g : Station → Station) (h : j ≠ i) :
    (s.withStation i g).station j = s.station j := by
  have hv : i.val ≠ j.val := fun e => h (Fin.ext e.symm)
  simp [State.withStation, State.station, hv]

@[simp] theorem State.setAttn_attn (s : State) (i : Fin 64) (r : Attention) : (s.setAttn i r).attn i = r := by
  simp [State.setAttn, State.attn]

theorem State.setAttn_attn_other (s : State) {i j : Fin 64} (r : Attention) (h : j ≠ i) :
    (s.setAttn i r).attn j = s.attn j := by
  have hv : i.val ≠ j.val := fun e => h (Fin.ext e.symm)
  simp [State.setAttn, State.attn, hv]

@[simp] theorem State.setDescriptor_descriptor (s : State) (d : Fin 32) (r : Descriptor) :
    (s.setDescriptor d r).descriptor d = r := by
  simp [State.setDescriptor, State.descriptor]

theorem State.setDescriptor_descriptor_other (s : State) {d x : Fin 32} (r : Descriptor) (h : x ≠ d) :
    (s.setDescriptor d r).descriptor x = s.descriptor x := by
  have hv : d.val ≠ x.val := fun e => h (Fin.ext e.symm)
  simp [State.setDescriptor, State.descriptor, hv]

@[simp] theorem State.setClaim_claim (s : State) (d : Fin 32) (c : Option Engine) : (s.setClaim d c).claim d = c := by
  simp [State.setClaim, State.claim]

theorem State.setClaim_claim_other (s : State) {d x : Fin 32} (c : Option Engine) (h : x ≠ d) :
    (s.setClaim d c).claim x = s.claim x := by
  have hv : d.val ≠ x.val := fun e => h (Fin.ext e.symm)
  simp [State.setClaim, State.claim, hv]

@[simp] theorem State.setPair_pair (s : State) (p : Fin 16) (r : Pair) : (s.setPair p r).pair p = r := by
  simp [State.setPair, State.pair]

theorem State.setPair_pair_other (s : State) {p x : Fin 16} (r : Pair) (h : x ≠ p) :
    (s.setPair p r).pair x = s.pair x := by
  have hv : p.val ≠ x.val := fun e => h (Fin.ext e.symm)
  simp [State.setPair, State.pair, hv]

/-! ### A reader after an update of another table -/

@[simp] theorem State.withEngine_port (s : State) (e : Engine) (g : EngineState → EngineState) (x : PortId) :
    (s.withEngine e g).port x = s.port x := by cases e <;> cases x <;> rfl
@[simp] theorem State.withEngine_station (s : State) (e : Engine) (g : EngineState → EngineState) (x : Fin 64) :
    (s.withEngine e g).station x = s.station x := by cases e <;> rfl
@[simp] theorem State.withEngine_attn (s : State) (e : Engine) (g : EngineState → EngineState) (x : Fin 64) :
    (s.withEngine e g).attn x = s.attn x := by cases e <;> rfl
@[simp] theorem State.withEngine_descriptor (s : State) (e : Engine) (g : EngineState → EngineState) (x : Fin 32) :
    (s.withEngine e g).descriptor x = s.descriptor x := by cases e <;> rfl
@[simp] theorem State.withEngine_claim (s : State) (e : Engine) (g : EngineState → EngineState) (x : Fin 32) :
    (s.withEngine e g).claim x = s.claim x := by cases e <;> rfl
@[simp] theorem State.withEngine_pair (s : State) (e : Engine) (g : EngineState → EngineState) (x : Fin 16) :
    (s.withEngine e g).pair x = s.pair x := by cases e <;> rfl
@[simp] theorem State.withPort_engine (s : State) (p : PortId) (g : Port → Port) (x : Engine) :
    (s.withPort p g).engine x = s.engine x := by cases p <;> cases x <;> rfl
@[simp] theorem State.withPort_station (s : State) (p : PortId) (g : Port → Port) (x : Fin 64) :
    (s.withPort p g).station x = s.station x := by cases p <;> rfl
@[simp] theorem State.withPort_attn (s : State) (p : PortId) (g : Port → Port) (x : Fin 64) :
    (s.withPort p g).attn x = s.attn x := by cases p <;> rfl
@[simp] theorem State.withPort_descriptor (s : State) (p : PortId) (g : Port → Port) (x : Fin 32) :
    (s.withPort p g).descriptor x = s.descriptor x := by cases p <;> rfl
@[simp] theorem State.withPort_claim (s : State) (p : PortId) (g : Port → Port) (x : Fin 32) :
    (s.withPort p g).claim x = s.claim x := by cases p <;> rfl
@[simp] theorem State.withPort_pair (s : State) (p : PortId) (g : Port → Port) (x : Fin 16) :
    (s.withPort p g).pair x = s.pair x := by cases p <;> rfl
@[simp] theorem State.withStation_engine (s : State) (i : Fin 64) (g : Station → Station) (x : Engine) :
    (s.withStation i g).engine x = s.engine x := by cases x <;> rfl
@[simp] theorem State.withStation_port (s : State) (i : Fin 64) (g : Station → Station) (x : PortId) :
    (s.withStation i g).port x = s.port x := by cases x <;> rfl
@[simp] theorem State.withStation_attn (s : State) (i : Fin 64) (g : Station → Station) (x : Fin 64) :
    (s.withStation i g).attn x = s.attn x := rfl
@[simp] theorem State.withStation_descriptor (s : State) (i : Fin 64) (g : Station → Station) (x : Fin 32) :
    (s.withStation i g).descriptor x = s.descriptor x := rfl
@[simp] theorem State.withStation_claim (s : State) (i : Fin 64) (g : Station → Station) (x : Fin 32) :
    (s.withStation i g).claim x = s.claim x := rfl
@[simp] theorem State.withStation_pair (s : State) (i : Fin 64) (g : Station → Station) (x : Fin 16) :
    (s.withStation i g).pair x = s.pair x := rfl
@[simp] theorem State.setAttn_engine (s : State) (i : Fin 64) (r : Attention) (x : Engine) :
    (s.setAttn i r).engine x = s.engine x := by cases x <;> rfl
@[simp] theorem State.setAttn_port (s : State) (i : Fin 64) (r : Attention) (x : PortId) :
    (s.setAttn i r).port x = s.port x := by cases x <;> rfl
@[simp] theorem State.setAttn_station (s : State) (i : Fin 64) (r : Attention) (x : Fin 64) :
    (s.setAttn i r).station x = s.station x := rfl
@[simp] theorem State.setAttn_descriptor (s : State) (i : Fin 64) (r : Attention) (x : Fin 32) :
    (s.setAttn i r).descriptor x = s.descriptor x := rfl
@[simp] theorem State.setAttn_claim (s : State) (i : Fin 64) (r : Attention) (x : Fin 32) :
    (s.setAttn i r).claim x = s.claim x := rfl
@[simp] theorem State.setAttn_pair (s : State) (i : Fin 64) (r : Attention) (x : Fin 16) :
    (s.setAttn i r).pair x = s.pair x := rfl
@[simp] theorem State.setDescriptor_engine (s : State) (d : Fin 32) (r : Descriptor) (x : Engine) :
    (s.setDescriptor d r).engine x = s.engine x := by cases x <;> rfl
@[simp] theorem State.setDescriptor_port (s : State) (d : Fin 32) (r : Descriptor) (x : PortId) :
    (s.setDescriptor d r).port x = s.port x := by cases x <;> rfl
@[simp] theorem State.setDescriptor_station (s : State) (d : Fin 32) (r : Descriptor) (x : Fin 64) :
    (s.setDescriptor d r).station x = s.station x := rfl
@[simp] theorem State.setDescriptor_attn (s : State) (d : Fin 32) (r : Descriptor) (x : Fin 64) :
    (s.setDescriptor d r).attn x = s.attn x := rfl
@[simp] theorem State.setDescriptor_claim (s : State) (d : Fin 32) (r : Descriptor) (x : Fin 32) :
    (s.setDescriptor d r).claim x = s.claim x := rfl
@[simp] theorem State.setDescriptor_pair (s : State) (d : Fin 32) (r : Descriptor) (x : Fin 16) :
    (s.setDescriptor d r).pair x = s.pair x := rfl
@[simp] theorem State.setClaim_engine (s : State) (d : Fin 32) (c : Option Engine) (x : Engine) :
    (s.setClaim d c).engine x = s.engine x := by cases x <;> rfl
@[simp] theorem State.setClaim_port (s : State) (d : Fin 32) (c : Option Engine) (x : PortId) :
    (s.setClaim d c).port x = s.port x := by cases x <;> rfl
@[simp] theorem State.setClaim_station (s : State) (d : Fin 32) (c : Option Engine) (x : Fin 64) :
    (s.setClaim d c).station x = s.station x := rfl
@[simp] theorem State.setClaim_attn (s : State) (d : Fin 32) (c : Option Engine) (x : Fin 64) :
    (s.setClaim d c).attn x = s.attn x := rfl
@[simp] theorem State.setClaim_descriptor (s : State) (d : Fin 32) (c : Option Engine) (x : Fin 32) :
    (s.setClaim d c).descriptor x = s.descriptor x := rfl
@[simp] theorem State.setClaim_pair (s : State) (d : Fin 32) (c : Option Engine) (x : Fin 16) :
    (s.setClaim d c).pair x = s.pair x := rfl
@[simp] theorem State.setPair_engine (s : State) (p : Fin 16) (r : Pair) (x : Engine) :
    (s.setPair p r).engine x = s.engine x := by cases x <;> rfl
@[simp] theorem State.setPair_port (s : State) (p : Fin 16) (r : Pair) (x : PortId) :
    (s.setPair p r).port x = s.port x := by cases x <;> rfl
@[simp] theorem State.setPair_station (s : State) (p : Fin 16) (r : Pair) (x : Fin 64) :
    (s.setPair p r).station x = s.station x := rfl
@[simp] theorem State.setPair_attn (s : State) (p : Fin 16) (r : Pair) (x : Fin 64) :
    (s.setPair p r).attn x = s.attn x := rfl
@[simp] theorem State.setPair_descriptor (s : State) (p : Fin 16) (r : Pair) (x : Fin 32) :
    (s.setPair p r).descriptor x = s.descriptor x := rfl
@[simp] theorem State.setPair_claim (s : State) (p : Fin 16) (r : Pair) (x : Fin 32) :
    (s.setPair p r).claim x = s.claim x := rfl

end Sys2Proof.Machine
end

