-- ==== Sys2Proof/Laws/Notices.lean ====
section
/-!
SUPPORT. What raising a notice can change: the transmitter, the reply slot, the notice queue and the overrun flag, and
nothing else; and that the queue keeps its capacity.
-/

namespace Sys2Proof.Machine

/-! ### What a free transmitter's choice leaves -/

@[simp] theorem State.transmit_pending (s : State) : s.transmit.pending = s.pending :=
  by unfold State.transmit; (repeat' split) <;> rfl
@[simp] theorem State.transmit_lr1 (s : State) : s.transmit.lr1 = s.lr1 := by unfold State.transmit; (repeat' split) <;> rfl
@[simp] theorem State.transmit_lr0 (s : State) : s.transmit.lr0 = s.lr0 := by unfold State.transmit; (repeat' split) <;> rfl
@[simp] theorem State.transmit_storeWp (s : State) : s.transmit.storeWp = s.storeWp :=
  by unfold State.transmit; (repeat' split) <;> rfl
@[simp] theorem State.transmit_time (s : State) : s.transmit.time = s.time :=
  by unfold State.transmit; (repeat' split) <;> rfl
@[simp] theorem State.transmit_linkRate (s : State) : s.transmit.linkRate = s.linkRate :=
  by unfold State.transmit; (repeat' split) <;> rfl
@[simp] theorem State.transmit_rx (s : State) : s.transmit.rx = s.rx := by unfold State.transmit; (repeat' split) <;> rfl
@[simp] theorem State.transmit_processing (s : State) : s.transmit.processing = s.processing :=
  by unfold State.transmit; (repeat' split) <;> rfl
@[simp] theorem State.transmit_held (s : State) : s.transmit.held = s.held :=
  by unfold State.transmit; (repeat' split) <;> rfl
@[simp] theorem State.transmit_arrangement (s : State) : s.transmit.arrangement = s.arrangement :=
  by unfold State.transmit; (repeat' split) <;> rfl
@[simp] theorem State.transmit_mask (s : State) : s.transmit.mask = s.mask :=
  by unfold State.transmit; (repeat' split) <;> rfl
@[simp] theorem State.transmit_demandLevel (s : State) : s.transmit.demandLevel = s.demandLevel :=
  by unfold State.transmit; (repeat' split) <;> rfl
@[simp] theorem State.transmit_enables (s : State) : s.transmit.enables = s.enables :=
  by unfold State.transmit; (repeat' split) <;> rfl
@[simp] theorem State.transmit_stations (s : State) : s.transmit.stations = s.stations :=
  by unfold State.transmit; (repeat' split) <;> rfl
@[simp] theorem State.transmit_attention (s : State) : s.transmit.attention = s.attention :=
  by unfold State.transmit; (repeat' split) <;> rfl
@[simp] theorem State.transmit_stack (s : State) : s.transmit.stack = s.stack :=
  by unfold State.transmit; (repeat' split) <;> rfl
@[simp] theorem State.transmit_descriptors (s : State) : s.transmit.descriptors = s.descriptors :=
  by unfold State.transmit; (repeat' split) <;> rfl
@[simp] theorem State.transmit_claims (s : State) : s.transmit.claims = s.claims :=
  by unfold State.transmit; (repeat' split) <;> rfl
@[simp] theorem State.transmit_pairs (s : State) : s.transmit.pairs = s.pairs :=
  by unfold State.transmit; (repeat' split) <;> rfl
@[simp] theorem State.transmit_portA (s : State) : s.transmit.portA = s.portA :=
  by unfold State.transmit; (repeat' split) <;> rfl
@[simp] theorem State.transmit_portB (s : State) : s.transmit.portB = s.portB :=
  by unfold State.transmit; (repeat' split) <;> rfl
@[simp] theorem State.transmit_engineA (s : State) : s.transmit.engineA = s.engineA :=
  by unfold State.transmit; (repeat' split) <;> rfl
@[simp] theorem State.transmit_engineB (s : State) : s.transmit.engineB = s.engineB :=
  by unfold State.transmit; (repeat' split) <;> rfl
@[simp] theorem State.transmit_region (s : State) : s.transmit.region = s.region :=
  by unfold State.transmit; (repeat' split) <;> rfl
@[simp] theorem State.transmit_imageState (s : State) : s.transmit.imageState = s.imageState :=
  by unfold State.transmit; (repeat' split) <;> rfl
@[simp] theorem State.transmit_startSource (s : State) : s.transmit.startSource = s.startSource :=
  by unfold State.transmit; (repeat' split) <;> rfl
@[simp] theorem State.transmit_store (s : State) : s.transmit.store = s.store :=
  by unfold State.transmit; (repeat' split) <;> rfl

/-! ### What a raised notice leaves -/

@[simp] theorem State.raise_pending (n : Notice) (s : State) : (s.raise n).pending = s.pending :=
  by
  unfold State.raise State.queueNotice; (repeat' split) <;> simp
@[simp] theorem State.raise_lr1 (n : Notice) (s : State) : (s.raise n).lr1 = s.lr1 :=
  by
  unfold State.raise State.queueNotice; (repeat' split) <;> simp
@[simp] theorem State.raise_lr0 (n : Notice) (s : State) : (s.raise n).lr0 = s.lr0 :=
  by
  unfold State.raise State.queueNotice; (repeat' split) <;> simp
@[simp] theorem State.raise_storeWp (n : Notice) (s : State) : (s.raise n).storeWp = s.storeWp :=
  by
  unfold State.raise State.queueNotice; (repeat' split) <;> simp
@[simp] theorem State.raise_time (n : Notice) (s : State) : (s.raise n).time = s.time :=
  by
  unfold State.raise State.queueNotice; (repeat' split) <;> simp
@[simp] theorem State.raise_linkRate (n : Notice) (s : State) : (s.raise n).linkRate = s.linkRate :=
  by
  unfold State.raise State.queueNotice; (repeat' split) <;> simp
@[simp] theorem State.raise_rx (n : Notice) (s : State) : (s.raise n).rx = s.rx :=
  by
  unfold State.raise State.queueNotice; (repeat' split) <;> simp
@[simp] theorem State.raise_processing (n : Notice) (s : State) : (s.raise n).processing = s.processing :=
  by
  unfold State.raise State.queueNotice; (repeat' split) <;> simp
@[simp] theorem State.raise_held (n : Notice) (s : State) : (s.raise n).held = s.held :=
  by
  unfold State.raise State.queueNotice; (repeat' split) <;> simp
@[simp] theorem State.raise_arrangement (n : Notice) (s : State) : (s.raise n).arrangement = s.arrangement :=
  by
  unfold State.raise State.queueNotice; (repeat' split) <;> simp
@[simp] theorem State.raise_mask (n : Notice) (s : State) : (s.raise n).mask = s.mask :=
  by
  unfold State.raise State.queueNotice; (repeat' split) <;> simp
@[simp] theorem State.raise_demandLevel (n : Notice) (s : State) : (s.raise n).demandLevel = s.demandLevel :=
  by
  unfold State.raise State.queueNotice; (repeat' split) <;> simp
@[simp] theorem State.raise_enables (n : Notice) (s : State) : (s.raise n).enables = s.enables :=
  by
  unfold State.raise State.queueNotice; (repeat' split) <;> simp
@[simp] theorem State.raise_stations (n : Notice) (s : State) : (s.raise n).stations = s.stations :=
  by
  unfold State.raise State.queueNotice; (repeat' split) <;> simp
@[simp] theorem State.raise_attention (n : Notice) (s : State) : (s.raise n).attention = s.attention :=
  by
  unfold State.raise State.queueNotice; (repeat' split) <;> simp
@[simp] theorem State.raise_stack (n : Notice) (s : State) : (s.raise n).stack = s.stack :=
  by
  unfold State.raise State.queueNotice; (repeat' split) <;> simp
@[simp] theorem State.raise_descriptors (n : Notice) (s : State) : (s.raise n).descriptors = s.descriptors :=
  by
  unfold State.raise State.queueNotice; (repeat' split) <;> simp
@[simp] theorem State.raise_claims (n : Notice) (s : State) : (s.raise n).claims = s.claims :=
  by
  unfold State.raise State.queueNotice; (repeat' split) <;> simp
@[simp] theorem State.raise_pairs (n : Notice) (s : State) : (s.raise n).pairs = s.pairs :=
  by
  unfold State.raise State.queueNotice; (repeat' split) <;> simp
@[simp] theorem State.raise_portA (n : Notice) (s : State) : (s.raise n).portA = s.portA :=
  by
  unfold State.raise State.queueNotice; (repeat' split) <;> simp
@[simp] theorem State.raise_portB (n : Notice) (s : State) : (s.raise n).portB = s.portB :=
  by
  unfold State.raise State.queueNotice; (repeat' split) <;> simp
@[simp] theorem State.raise_engineA (n : Notice) (s : State) : (s.raise n).engineA = s.engineA :=
  by
  unfold State.raise State.queueNotice; (repeat' split) <;> simp
@[simp] theorem State.raise_engineB (n : Notice) (s : State) : (s.raise n).engineB = s.engineB :=
  by
  unfold State.raise State.queueNotice; (repeat' split) <;> simp
@[simp] theorem State.raise_region (n : Notice) (s : State) : (s.raise n).region = s.region :=
  by
  unfold State.raise State.queueNotice; (repeat' split) <;> simp
@[simp] theorem State.raise_imageState (n : Notice) (s : State) : (s.raise n).imageState = s.imageState :=
  by
  unfold State.raise State.queueNotice; (repeat' split) <;> simp
@[simp] theorem State.raise_startSource (n : Notice) (s : State) : (s.raise n).startSource = s.startSource :=
  by
  unfold State.raise State.queueNotice; (repeat' split) <;> simp
@[simp] theorem State.raise_store (n : Notice) (s : State) : (s.raise n).store = s.store :=
  by
  unfold State.raise State.queueNotice; (repeat' split) <;> simp

/-! ### The readers after a raised notice -/

@[simp] theorem State.raise_engine (n : Notice) (s : State) (x : Engine) : (s.raise n).engine x = s.engine x :=
  by
  cases x <;> simp [State.engine]
@[simp] theorem State.raise_port (n : Notice) (s : State) (x : PortId) : (s.raise n).port x = s.port x :=
  by
  cases x <;> simp [State.port]
@[simp] theorem State.raise_station (n : Notice) (s : State) (x : Fin 64) : (s.raise n).station x = s.station x :=
  by
  simp [State.station]
@[simp] theorem State.raise_attn (n : Notice) (s : State) (x : Fin 64) : (s.raise n).attn x = s.attn x :=
  by
  simp [State.attn]
@[simp] theorem State.raise_descriptor (n : Notice) (s : State) (x : Fin 32) : (s.raise n).descriptor x = s.descriptor x :=
  by
  simp [State.descriptor]
@[simp] theorem State.raise_claim (n : Notice) (s : State) (x : Fin 32) : (s.raise n).claim x = s.claim x :=
  by
  simp [State.claim]
@[simp] theorem State.raise_pair (n : Notice) (s : State) (x : Fin 16) : (s.raise n).pair x = s.pair x :=
  by
  simp [State.pair]

/-! ### The queue -/

/-- A free transmitter's choice never lengthens the queue. -/
theorem State.transmit_notices_le (s : State) : s.transmit.notices.length ≤ s.notices.length := by
  unfold State.transmit
  split
  · exact Nat.le_refl _
  · split
    · exact Nat.le_refl _
    · split
      · rename_i h; simp [h]
      · exact Nat.le_refl _

/-- A raised notice keeps the queue within its 32 entries (R153). -/
theorem State.raise_notices_le (n : Notice) (s : State) (h : s.notices.length ≤ Config.noticeEntries) :
    (s.raise n).notices.length ≤ Config.noticeEntries := by
  unfold State.raise
  split
  · refine Nat.le_trans (State.transmit_notices_le _) ?_
    unfold State.queueNotice
    split
    · simp only [List.length_append, List.length_cons, List.length_nil]; omega
    · exact h
  · exact h

/-- A notice whose kind is not enabled leaves no trace (R152). -/
theorem State.raise_of_disabled (n : Notice) (s : State) (h : n.enabled s.enables = false) : s.raise n = s := by
  simp [State.raise, h]

/-- While a frame is being sent, an enabled notice with room in the queue joins its tail, and nothing else changes. -/
theorem State.raise_of_busy (n : Notice) (s : State) (f : Transmission) (he : n.enabled s.enables = true) (ht : s.tx = some f)
    (hr : s.notices.length < Config.noticeEntries) : s.raise n = { s with notices := s.notices ++ [⟨n, s.time⟩] } := by
  simp [State.raise, State.queueNotice, State.transmit, he, ht, hr]

/-- While a frame is being sent, an enabled notice that finds the queue full sets the overrun flag, and nothing else
changes. -/
theorem State.raise_of_full (n : Notice) (s : State) (f : Transmission) (he : n.enabled s.enables = true) (ht : s.tx = some f)
    (hr : Config.noticeEntries ≤ s.notices.length) : s.raise n = { s with overrun := true } := by
  simp [State.raise, State.queueNotice, State.transmit, he, ht, Nat.not_lt.mpr hr]

end Sys2Proof.Machine
end

