-- ==== Sys2Proof/Laws/EngineFrame.lean ====
section
/-!
SUPPORT. What the engines' work leaves alone: the waiting commands, the pins, the clock, the receiver and the request
buffers, the part's settings, the service stack and the Image Store; and, beside a GOOD READ's delivery and a flip, what each
shared operation can change.
-/

namespace Sys2Proof.Machine

/-! ### A final outcome is set in the record, and nothing reads it there: the steps of R70 and R72 are handed the outcome -/

@[simp] theorem Transaction.finish_subject (t : Transaction) (o : LineOutcome) : (t.finish o).subject = t.subject := rfl
@[simp] theorem Transaction.finish_source (t : Transaction) (o : LineOutcome) : (t.finish o).source = t.source := rfl
@[simp] theorem Transaction.finish_request (t : Transaction) (o : LineOutcome) : (t.finish o).request = t.request := rfl
@[simp] theorem Transaction.finish_expected (t : Transaction) (o : LineOutcome) : (t.finish o).expected = t.expected := rfl
@[simp] theorem Transaction.finish_limit (t : Transaction) (o : LineOutcome) : (t.finish o).limit = t.limit := rfl
@[simp] theorem Transaction.finish_made (t : Transaction) (o : LineOutcome) : (t.finish o).made = t.made := rfl
@[simp] theorem Transaction.finish_lastLine (t : Transaction) (o : LineOutcome) : (t.finish o).lastLine = t.lastLine := rfl
@[simp] theorem Transaction.finish_statuses (t : Transaction) (o : LineOutcome) : (t.finish o).statuses = t.statuses := rfl
@[simp] theorem Transaction.finish_readData (t : Transaction) (o : LineOutcome) : (t.finish o).readData = t.readData := rfl
@[simp] theorem Transaction.finish_outcome (t : Transaction) (o : LineOutcome) : (t.finish o).outcome = some o := rfl
@[simp] theorem State.stationResults_finish (s : State) (t : Transaction) (o o' : LineOutcome) :
    s.stationResults (t.finish o) o' = s.stationResults t o' := rfl
@[simp] theorem State.endTransaction_finish (s : State) (e : Engine) (t : Transaction) (o o' : LineOutcome) (port : PortId) :
    s.endTransaction e (t.finish o) o' port = s.endTransaction e t o' port := rfl

/-- The fields of the part that no engine, arbiter or port operation changes. -/
structure EngineFrame (s t : State) : Prop where
  pending : t.pending = s.pending
  lr1 : t.lr1 = s.lr1
  lr0 : t.lr0 = s.lr0
  storeWp : t.storeWp = s.storeWp
  time : t.time = s.time
  linkRate : t.linkRate = s.linkRate
  rx : t.rx = s.rx
  processing : t.processing = s.processing
  held : t.held = s.held
  arrangement : t.arrangement = s.arrangement
  mask : t.mask = s.mask
  demandLevel : t.demandLevel = s.demandLevel
  enables : t.enables = s.enables
  stack : t.stack = s.stack
  region : t.region = s.region
  imageState : t.imageState = s.imageState
  startSource : t.startSource = s.startSource
  store : t.store = s.store

namespace EngineFrame

theorem refl (s : State) : EngineFrame s s := by constructor <;> rfl

theorem trans {s t u : State} (h : EngineFrame s t) (k : EngineFrame t u) : EngineFrame s u where
  pending := k.pending.trans h.pending
  lr1 := k.lr1.trans h.lr1
  lr0 := k.lr0.trans h.lr0
  storeWp := k.storeWp.trans h.storeWp
  time := k.time.trans h.time
  linkRate := k.linkRate.trans h.linkRate
  rx := k.rx.trans h.rx
  processing := k.processing.trans h.processing
  held := k.held.trans h.held
  arrangement := k.arrangement.trans h.arrangement
  mask := k.mask.trans h.mask
  demandLevel := k.demandLevel.trans h.demandLevel
  enables := k.enables.trans h.enables
  stack := k.stack.trans h.stack
  region := k.region.trans h.region
  imageState := k.imageState.trans h.imageState
  startSource := k.startSource.trans h.startSource
  store := k.store.trans h.store

theorem ite {s : State} {c : Prop} [Decidable c] {t u : State} (h : EngineFrame s t) (k : EngineFrame s u) :
    EngineFrame s (if c then t else u) := by split <;> assumption

theorem foldl {α : Type} (f : State → α → State) (h : ∀ s a, EngineFrame s (f s a)) (xs : List α) (s : State) :
    EngineFrame s (xs.foldl f s) := by
  induction xs generalizing s with
  | nil => exact refl s
  | cons x xs ih => exact (h s x).trans (ih (f s x))

/-! ### The record updates -/

theorem withEngine (s : State) (e : Engine) (g : EngineState → EngineState) : EngineFrame s (s.withEngine e g) := by
  constructor <;> simp

theorem withPort (s : State) (p : PortId) (g : Port → Port) : EngineFrame s (s.withPort p g) := by
  constructor <;> simp

theorem withStation (s : State) (i : Fin 64) (g : Station → Station) : EngineFrame s (s.withStation i g) := by
  constructor <;> simp

theorem setAttn (s : State) (i : Fin 64) (r : Attention) : EngineFrame s (s.setAttn i r) := by
  constructor <;> simp

theorem setDescriptor (s : State) (d : Fin 32) (r : Descriptor) : EngineFrame s (s.setDescriptor d r) := by
  constructor <;> simp

theorem setClaim (s : State) (d : Fin 32) (c : Option Engine) : EngineFrame s (s.setClaim d c) := by
  constructor <;> simp

theorem setPair (s : State) (p : Fin 16) (r : Pair) : EngineFrame s (s.setPair p r) := by
  constructor <;> simp

theorem raise (s : State) (n : Notice) : EngineFrame s (s.raise n) := by constructor <;> simp

/-! ### The Arbiter and the Station Table -/

theorem handOver (s : State) (i : Fin 64) (o : Origin) : EngineFrame s (s.handOver i o) := by
  unfold State.handOver; exact ite (raise _ _) (refl _)

theorem escalationCheck (s : State) (i : Fin 64) : EngineFrame s (s.escalationCheck i) := by
  unfold State.escalationCheck; exact ite (setAttn _ _ _) (refl _)

theorem takeClass (s : State) (i : Fin 64) (c : Fin 3) : EngineFrame s (s.takeClass i c) := by
  unfold State.takeClass; exact ite (setAttn _ _ _) ((setAttn _ _ _).trans (escalationCheck _ _))

theorem takeStatus (s : State) (i : Fin 64) (src : Source) (t : Status) : EngineFrame s (s.takeStatus i src t) := by
  unfold State.takeStatus
  (repeat' split) <;> first | exact takeClass _ _ _ | exact refl _

theorem offlineEffects (s : State) (i : Fin 64) : EngineFrame s (s.offlineEffects i) := by
  unfold State.offlineEffects; exact ite (refl _) (setAttn _ _ _)

theorem stationNotice (s : State) (i : Fin 64) (why : StationReason) : EngineFrame s (s.stationNotice i why) := raise _ _

theorem lineChange (s : State) (i : Fin 64) (p : PortId) : EngineFrame s (s.lineChange i p) := by
  unfold State.lineChange; exact ite (refl _) ((withStation _ _ _).trans (stationNotice _ _ _))

theorem faultChange (s : State) (i : Fin 64) (t : Status) (now : Stamp) : EngineFrame s (s.faultChange i t now) := by
  unfold State.faultChange; exact ite (withStation _ _ _) ((withStation _ _ _).trans (stationNotice _ _ _))

theorem takeReply (s : State) (i : Fin 64) (src : Source) (r : ReplyStatus) : EngineFrame s (s.takeReply i src r) :=
  ((lineChange _ _ _).trans (faultChange _ _ _ _)).trans (takeStatus _ _ _ _)

theorem healthUpdate (s : State) (i : Fin 64) (o : LineOutcome) : EngineFrame s (s.healthUpdate i o) := by
  unfold State.healthUpdate
  refine ite (ite ((withStation _ _ _).trans (stationNotice _ _ _)) (withStation _ _ _)) (ite ?_ (refl _))
  exact ite ((withStation _ _ _).trans (stationNotice _ _ _)) (withStation _ _ _)

theorem probeToggle (s : State) (i : Fin 64) (src : Source) (o : LineOutcome) : EngineFrame s (s.probeToggle i src o) := by
  unfold State.probeToggle
  (repeat' split) <;> first | exact withStation _ _ _ | exact refl _

theorem stationResults (s : State) (t : Transaction) (o : LineOutcome) : EngineFrame s (s.stationResults t o) := by
  unfold State.stationResults
  dsimp only
  refine trans ?_ (withStation _ _ _)
  refine trans ?_ (probeToggle _ _ _ _)
  refine trans ?_ (ite (offlineEffects _ _) (refl _))
  refine trans ?_ (healthUpdate _ _ _)
  exact foldl _ (fun s r => takeReply s t.subject t.source r) t.statuses s

theorem endAction (s : State) (i : Fin 64) (x : EndAction) : EngineFrame s (s.endAction i x) := setAttn _ _ _

/-! ### Pairs -/

theorem captureWords (s : State) (p : Fin 16) (n : Nat) (ws : List Word) : EngineFrame s (s.captureWords p n ws) :=
  setPair _ _ _

theorem flip (s : State) (e : Engine) (p : Fin 16) (c : FlipCause) : EngineFrame s (s.flip e p c) := by
  unfold State.flip; exact ite ((setPair _ _ _).trans (raise _ _)) (setPair _ _ _)

/-! ### Transactions -/

theorem handAttempt (s : State) (e : Engine) (t : Transaction) (l : Line) : EngineFrame s (s.handAttempt e t l) :=
  (withEngine _ _ _).trans (withPort _ _ _)

theorem claimFor (s : State) (e : Engine) (src : Source) : EngineFrame s (s.claimFor e src) := by
  unfold State.claimFor; split <;> first | exact setClaim _ _ _ | exact refl _

theorem issue (s : State) (e : Engine) (t : Transaction) : EngineFrame s (s.issue e t) := by
  unfold State.issue
  exact (((withStation _ _ _).trans (claimFor _ _ _)).trans (withEngine _ _ _)).trans (handAttempt _ _ _ _)

theorem endSweep (s : State) (e : Engine) : EngineFrame s (s.endSweep e) := withEngine _ _ _

theorem deliverWords (s : State) (t : Transaction) (o : LineOutcome) : EngineFrame s (s.deliverWords t o) := by
  unfold State.deliverWords
  (repeat' split) <;> first | exact captureWords _ _ _ _ | exact refl _

theorem demandNotice (s : State) (e : Engine) (q : Demand) (o : LineOutcome) (n : Nat) (ws : List Word) :
    EngineFrame s (s.demandNotice e q o n ws) := raise _ _

theorem completeTransfer (s : State) (e : Engine) (i : Fin 64) (d : Fin 32) : EngineFrame s (s.completeTransfer e i d) := by
  unfold State.completeTransfer
  have h1 := setDescriptor s d (s.descriptor d).advance
  have h2 := h1.trans (ite (c := (s.descriptor d).wraps = true) (flip _ e (s.descriptor d).pair (.descriptorWrap d)) (refl _))
  exact ite ((h2.trans (ite (endAction _ _ _) (refl _))).trans (ite (flip _ _ _ _) (refl _))) h2

theorem sweepStepEnd (s : State) (e : Engine) (t : Transaction) : EngineFrame s (s.sweepStepEnd e t) := by
  unfold State.sweepStepEnd; exact ite (endSweep _ _) (ite (endSweep _ _) (refl _))

theorem sourceCompletion (s : State) (e : Engine) (t : Transaction) (o : LineOutcome) :
    EngineFrame s (s.sourceCompletion e t o) := by
  unfold State.sourceCompletion
  split
  · exact (ite (completeTransfer _ _ _ _) (refl _)).trans (setClaim _ _ _)
  · exact sweepStepEnd _ _ _
  · exact demandNotice _ _ _ _ _ _
  · exact refl _
  · exact refl _
  · exact refl _

theorem slotFlip (s : State) (e : Engine) (t : Transaction) : EngineFrame s (s.slotFlip e t) := by
  unfold State.slotFlip
  (repeat' split) <;> first | exact flip _ _ _ _ | exact refl _

theorem tallyFailed (s : State) (e : Engine) (o : LineOutcome) : EngineFrame s (s.tallyFailed e o) := by
  unfold State.tallyFailed; exact ite (withEngine _ _ _) (refl _)

theorem handOverResults (s : State) (t : Transaction) (b : AttnState) : EngineFrame s (s.handOverResults t b) := by
  unfold State.handOverResults; exact ite (handOver _ _ _) (refl _)

theorem discardDemands (s : State) (e : Engine) : EngineFrame s (s.discardDemands e) := by
  unfold State.discardDemands
  exact (withEngine s e _).trans (foldl _ (fun s q => demandNotice s e q _ _ _) _ _)

theorem stopEngine (s : State) (e : Engine) (m : StopMode) : EngineFrame s (s.stopEngine e m) := by
  unfold State.stopEngine
  exact ((withEngine _ _ _).trans (ite (discardDemands _ _) (refl _))).trans (raise _ _)

theorem leaveTransaction (s : State) (e : Engine) (p : PortId) : EngineFrame s (s.leaveTransaction e p) := by
  unfold State.leaveTransaction
  refine (withEngine s e fun en => { en.leaveSlot with activity := .gap p }).trans ?_
  dsimp only
  (repeat' split) <;> first | exact stopEngine _ _ _ | exact refl _

theorem endTransaction (s : State) (e : Engine) (t : Transaction) (o : LineOutcome) (p : PortId) :
    EngineFrame s (s.endTransaction e t o p) := by
  unfold State.endTransaction
  refine (deliverWords s t o).trans ((stationResults _ t o).trans ((sourceCompletion _ e t o).trans ?_))
  exact (slotFlip _ e t).trans ((tallyFailed _ e o).trans ((handOverResults _ t _).trans (leaveTransaction _ e p)))

theorem takeReport (s : State) (e : Engine) (p : PortId) (r : Report) : EngineFrame s (s.takeReport e p r) := by
  unfold State.takeReport
  split
  · exact ite (endTransaction _ _ _ _ _) (handAttempt _ _ _ _)
  all_goals exact refl _

theorem endAttempt (s : State) (p : PortId) (a : Attempt) (r : Report) : EngineFrame s (s.endAttempt p a r) :=
  (withPort _ _ _).trans (takeReport _ _ _ _)

theorem abortCompletion (s : State) (e : Engine) (t : Transaction) : EngineFrame s (s.abortCompletion e t) := by
  unfold State.abortCompletion
  split <;> first | exact setClaim _ _ _ | exact demandNotice _ _ _ _ _ _ | exact refl _

theorem abortTransaction (s : State) (e : Engine) (t : Transaction) : EngineFrame s (s.abortTransaction e t) := by
  unfold State.abortTransaction
  dsimp only
  refine trans ?_ (withEngine _ _ _)
  refine trans ?_ (handOverResults _ _ _)
  refine trans ?_ (abortCompletion _ _ _)
  refine trans ?_ (stationResults _ _ _)
  exact (withPort _ _ _).trans (withPort _ _ _)

theorem abortEngine (s : State) (e : Engine) : EngineFrame s (s.abortEngine e) := by
  unfold State.abortEngine
  refine EngineFrame.trans ?_ (stopEngine _ _ _)
  split <;> first | exact abortTransaction _ _ _ | exact refl _

/-! ### Grants -/

theorem grantAcknowledge (s : State) (e : Engine) (i : Fin 64) : EngineFrame s (s.grantAcknowledge e i) := issue _ _ _

theorem grantDescriptor_again {s t : State} {e : Engine} {i : Fin 64} (h : s.grantDescriptor e i = .again t) :
    EngineFrame s t := by
  unfold State.grantDescriptor at h
  dsimp only at h
  split at h
  · injection h with h; subst h
    exact ite ((endAction _ _ _).trans (handOver _ _ _)) (endAction _ _ _)
  · split at h
    · injection h with h; subst h; exact refl _
    · cases h

theorem grantDescriptor_issued {s t : State} {e : Engine} {i : Fin 64} (h : s.grantDescriptor e i = .issued t) :
    EngineFrame s t := by
  unfold State.grantDescriptor at h
  dsimp only at h
  split at h
  · cases h
  · split at h
    · cases h
    · injection h with h; subst h; exact (setAttn _ _ _).trans (issue _ _ _)

theorem serveDemands (e : Engine) (qs : List Demand) (s : State) : EngineFrame s (s.serveDemands e qs).1 := by
  induction qs generalizing s with
  | nil => exact refl s
  | cons q rest ih =>
    unfold State.serveDemands
    dsimp only
    split
    · exact (withEngine _ _ _).trans (issue _ _ _)
    · exact ((withEngine s e fun en => { en with demands := rest }).trans (demandNotice _ e q _ _ _)).trans (ih _)

theorem demandStep (s : State) (e : Engine) : EngineFrame s (s.demandStep e).1 := by
  unfold State.demandStep; split
  · exact serveDemands _ _ _
  · exact refl _

theorem grantSweep (s : State) (e : Engine) (i : Fin 64) : EngineFrame s (s.grantSweep e i) := by
  unfold State.grantSweep; exact (withEngine _ _ _).trans (issue _ _ _)

theorem sweepStep (s : State) (e : Engine) (xs : List (Fin 64)) : EngineFrame s (s.sweepStep e xs).1 := by
  unfold State.sweepStep
  split
  · split
    · exact grantSweep _ _ _
    · exact endSweep _ _
  · exact refl _

theorem grantFrom (n : Nat) (e : Engine) (xs : List (Fin 64)) (s : State) : EngineFrame s (State.grantFrom n e xs s).1 := by
  induction n generalizing xs s with
  | zero => exact refl s
  | succ n ih =>
    unfold State.grantFrom
    split
    · split
      · rename_i h; exact (grantDescriptor_again h).trans (ih _ _)
      · rename_i h; exact grantDescriptor_issued h
    · split
      · exact grantAcknowledge _ _ _
      · split
        · split
          · rename_i h; exact (grantDescriptor_again h).trans (ih _ _)
          · rename_i h; exact grantDescriptor_issued h
        · split
          · rename_i h; have := demandStep s e; rw [h] at this; exact this
          · rename_i s' h
            have hd : EngineFrame s s' := by have := demandStep s e; rw [h] at this; exact this
            refine hd.trans ?_
            split
            · split
              · rename_i h; exact (grantDescriptor_again h).trans (ih _ _)
              · rename_i h; exact grantDescriptor_issued h
            · exact sweepStep _ _ _

theorem grantOrder (s : State) (e : Engine) (xs : List (Fin 64)) : EngineFrame s (s.grantOrder e xs).1 := grantFrom _ _ _ _

theorem grant (s : State) (e : Engine) : EngineFrame s (s.grant e).1 := grantOrder _ _ _

/-! ### Slots and cycles -/

theorem tally (s : State) (e : Engine) (f : Tallies → Tallies) : EngineFrame s (s.tally e f) := withEngine _ _ _

theorem nextSlot (s : State) (e : Engine) : EngineFrame s (s.nextSlot e) := withEngine _ _ _

theorem startSlot (s : State) (e : Engine) (n : Fin 128) (sl : Slot) : EngineFrame s (s.startSlot e n sl).1 := by
  unfold State.startSlot
  split
  · split
    · exact tally _ _ _
    · split <;> exact (tally _ _ _).trans (issue _ _ _)
  · have hg := grant s e
    split
    · rename_i h; rw [h] at hg; exact hg.trans (tally _ _ _)
    · rename_i h; rw [h] at hg; exact hg.trans (tally _ _ _)

theorem takeFrom (n : Nat) (e : Engine) (s : State) : EngineFrame s (State.takeFrom n e s) := by
  induction n generalizing s with
  | zero => exact refl s
  | succ n ih =>
    unfold State.takeFrom
    dsimp only
    split
    · rename_i hlt
      split
      · split
        · exact ((tally s e _).trans (nextSlot _ e)).trans (ih _)
        · split
          · exact withEngine _ _ _
          · split
            · exact ((tally s e _).trans (nextSlot _ e)).trans (ih _)
            · split
              · exact withEngine _ _ _
              · have hs := startSlot s e ⟨(s.engine e).next, hlt⟩ (s.engine e).activeBank.slots[(s.engine e).next]
                split
                · rename_i h; rw [h] at hs; exact hs
                · rename_i h; rw [h] at hs; exact (hs.trans (nextSlot _ e)).trans (ih _)
      · exact withEngine _ _ _
    · exact withEngine _ _ _

theorem takeSlots (s : State) (e : Engine) : EngineFrame s (s.takeSlots e) := takeFrom _ _ _

theorem closeCycle (s : State) (e : Engine) : EngineFrame s (s.closeCycle e) := by
  unfold State.closeCycle
  exact (withEngine s e EngineState.closed).trans (ite (raise _ _) (refl _))

theorem startCycle (s : State) (e : Engine) : EngineFrame s (s.startCycle e) := by
  unfold State.startCycle
  dsimp only
  split <;> first | exact (withEngine _ _ _).trans (takeSlots _ _) | exact withEngine _ _ _

theorem startEngine (s : State) (e : Engine) : EngineFrame s (s.startEngine e) := by
  unfold State.startEngine; exact (withEngine _ _ _).trans (takeSlots _ _)

theorem periodExpires (s : State) (e : Engine) : EngineFrame s (s.periodExpires e) := by
  unfold State.periodExpires
  split
  · exact (closeCycle _ _).trans (startCycle _ _)
  · exact (closeCycle _ _).trans (startCycle _ _)
  · refine (closeCycle s e).trans ?_
    dsimp only
    split <;> first | exact withEngine _ _ _ | exact stopEngine _ _ _
  · exact refl _
  · exact refl _

theorem slotStarts (s : State) (e : Engine) : EngineFrame s (s.slotStarts e) := by
  unfold State.slotStarts
  dsimp only
  split
  · rename_i hlt
    have hs := startSlot s e ⟨(s.engine e).next, hlt⟩ (s.engine e).activeBank.slots[(s.engine e).next]
    split
    · rename_i h; rw [h] at hs; exact hs
    · rename_i h; rw [h] at hs; exact (hs.trans (nextSlot _ e)).trans (takeSlots _ e)
  · exact refl _

theorem portReady (s : State) (e : Engine) (p : PortId) : EngineFrame s (s.portReady e p) := by
  unfold State.portReady; exact ite (takeSlots _ _) (refl _)

theorem setStopping (s : State) (e : Engine) (m : StopMode) : EngineFrame s (s.setStopping e m) := by
  unfold State.setStopping
  dsimp only
  split
  · exact withEngine _ _ _
  · exact ite (withEngine _ _ _) ((withEngine _ _ _).trans (stopEngine _ _ _))
  · exact (withEngine _ _ _).trans (abortEngine _ _)

end EngineFrame

end Sys2Proof.Machine
end

