-- ==== Sys2Proof/Laws/Memory.lean ====
section
/-!
SUPPORT. The nonvolatile region's cells: laying out a run of addresses keeps the canonical form, and what an address reads
as afterwards.
-/

namespace Sys2Proof.Machine

/-! ### Canonical form -/

theorem Memory.wfFrom_mono {lo lo' : Nat} {c : List Host.Cell} (h : Memory.wfFrom lo c = true) (hl : lo' ≤ lo) :
    Memory.wfFrom lo' c = true := by
  cases c with
  | nil => rfl
  | cons x xs =>
    obtain ⟨a, b⟩ := x
    simp only [Memory.wfFrom, Bool.and_eq_true, decide_eq_true_eq] at h ⊢
    exact ⟨⟨by omega, h.1.2⟩, h.2⟩

/-- Cells below an address, then cells from it on. -/
theorem Memory.wfFrom_append {lo mid : Nat} {c d : List Host.Cell} (h : Memory.wfFrom lo c = true)
    (hb : ∀ x ∈ c, x.1 < mid) (hd : Memory.wfFrom mid d = true) (hm : lo ≤ mid) : Memory.wfFrom lo (c ++ d) = true := by
  induction c generalizing lo with
  | nil => exact Memory.wfFrom_mono hd hm
  | cons x xs ih =>
    obtain ⟨a, b⟩ := x
    simp only [Memory.wfFrom, Bool.and_eq_true, decide_eq_true_eq, List.cons_append] at h ⊢
    have ha : a < mid := hb (a, b) (by simp)
    exact ⟨h.1, ih h.2 (fun y hy => hb y (by simp [hy])) (by omega)⟩

theorem Memory.wfFrom_filter {lo : Nat} {c : List Host.Cell} (p : Host.Cell → Bool) (h : Memory.wfFrom lo c = true) :
    Memory.wfFrom lo (c.filter p) = true := by
  induction c generalizing lo with
  | nil => rfl
  | cons x xs ih =>
    obtain ⟨a, b⟩ := x
    simp only [Memory.wfFrom, Bool.and_eq_true, decide_eq_true_eq] at h
    by_cases hp : p (a, b) = true
    · rw [List.filter_cons_of_pos hp]
      simp only [Memory.wfFrom, Bool.and_eq_true, decide_eq_true_eq]
      exact ⟨h.1, ih h.2⟩
    · rw [List.filter_cons_of_neg hp]
      exact Memory.wfFrom_mono (ih h.2) (by omega)

/-- The cells from an address on of a canonical form are canonical from there. -/
theorem Memory.wfFrom_filter_from {lo n : Nat} {c : List Host.Cell} (h : Memory.wfFrom lo c = true) :
    Memory.wfFrom n (c.filter fun x => decide (n ≤ x.1)) = true := by
  induction c generalizing lo with
  | nil => rfl
  | cons x xs ih =>
    obtain ⟨a, b⟩ := x
    simp only [Memory.wfFrom, Bool.and_eq_true, decide_eq_true_eq] at h
    by_cases hp : n ≤ a
    · rw [List.filter_cons_of_pos (by simpa using hp)]
      simp only [Memory.wfFrom, Bool.and_eq_true, decide_eq_true_eq]
      exact ⟨⟨hp, h.1.2⟩, Memory.wfFrom_filter _ h.2⟩
    · rw [List.filter_cons_of_neg (by simpa using hp)]
      exact ih h.2

theorem Memory.wfFrom_run (a : Nat) (bytes : List Byte) : Memory.wfFrom a (Memory.run a bytes) = true := by
  induction bytes generalizing a with
  | nil => rfl
  | cons b rest ih =>
    by_cases hb : b = Memory.erasedByte
    · rw [Memory.run, if_pos hb]; exact Memory.wfFrom_mono (ih (a + 1)) (by omega)
    · rw [Memory.run, if_neg hb]
      simp only [Memory.wfFrom, Bool.and_eq_true, decide_eq_true_eq]
      exact ⟨⟨Nat.le_refl a, by simpa using hb⟩, ih (a + 1)⟩

theorem Memory.run_range (a : Nat) (bytes : List Byte) : ∀ x ∈ Memory.run a bytes, a ≤ x.1 ∧ x.1 < a + bytes.length := by
  induction bytes generalizing a with
  | nil => intro x hx; simp [Memory.run] at hx
  | cons b rest ih =>
    intro x hx
    rw [Memory.run] at hx
    simp only [List.length_cons]
    split at hx
    · have := ih (a + 1) x hx; omega
    · rcases List.mem_cons.mp hx with h | h
      · subst h; exact ⟨Nat.le_refl _, by omega⟩
      · have := ih (a + 1) x h; omega

/-- Laying out a run of addresses keeps the canonical form. -/
theorem Memory.wf_lay (cells : List Host.Cell) (base len : Nat) (bytes : List Byte) (h : Memory.wf cells = true) :
    Memory.wf (Memory.lay cells base len bytes) = true := by
  unfold Memory.wf at h ⊢
  unfold Memory.lay
  have hlen : (bytes.take len).length ≤ len := by simp
  refine Memory.wfFrom_append (mid := base + len) ?_ ?_ (Memory.wfFrom_filter_from h) (by omega)
  · exact Memory.wfFrom_append (mid := base) (Memory.wfFrom_filter _ h)
      (fun x hx => by simpa using (List.mem_filter.mp hx).2) (Memory.wfFrom_run _ _) (by omega)
  · intro x hx
    rcases List.mem_append.mp hx with hx | hx
    · have := (List.mem_filter.mp hx).2; simp at this; omega
    · have := Memory.run_range _ _ x hx; omega

/-- Laying out a run of addresses inside a bound keeps every cell inside it. -/
theorem Memory.lay_bound (cells : List Host.Cell) (base len bound : Nat) (bytes : List Byte)
    (h : ∀ c ∈ cells, c.1 < bound) (hb : base + len ≤ bound) : ∀ c ∈ Memory.lay cells base len bytes, c.1 < bound := by
  intro c hc
  unfold Memory.lay at hc
  have hlen : (bytes.take len).length ≤ len := by simp
  rcases List.mem_append.mp hc with hc | hc
  · rcases List.mem_append.mp hc with hc | hc
    · exact h c (List.mem_filter.mp hc).1
    · have := Memory.run_range _ _ c hc; omega
  · exact h c (List.mem_filter.mp hc).1

/-- The erase of a block keeps the region's canonical form. -/
theorem Region.wf_setErased (r : Region) (block : Fin 4) (h : Memory.wf r.cells = true) :
    Memory.wf (r.setErased block).cells = true := Memory.wf_lay _ _ _ _ h

/-- The program of a page keeps the region's canonical form. -/
theorem Region.wf_programmed (r : Region) (page : Nat) (bytes : List Byte) (h : Memory.wf r.cells = true) :
    Memory.wf (r.programmed page bytes).cells = true := Memory.wf_lay _ _ _ _ h

@[simp] theorem Region.beginErase_cells (r : Region) (block : Fin 4) : (r.beginErase block).cells = r.cells := by
  simp only [Region.beginErase]

@[simp] theorem Region.beginProgram_cells (r : Region) (page : Nat) : (r.beginProgram page).cells = r.cells := by
  simp only [Region.beginProgram]

/-! ### Reading -/

theorem Memory.read_of_absent (c : List Host.Cell) (a : Nat) (h : ∀ x ∈ c, x.1 ≠ a) :
    Memory.read c a = Memory.erasedByte := by
  induction c with
  | nil => rfl
  | cons x xs ih =>
    obtain ⟨k, b⟩ := x
    rw [Memory.read, if_neg (h (k, b) (by simp))]
    exact ih fun y hy => h y (by simp [hy])

theorem Memory.read_append_absent (c d : List Host.Cell) (a : Nat) (h : ∀ x ∈ c, x.1 ≠ a) :
    Memory.read (c ++ d) a = Memory.read d a := by
  induction c with
  | nil => rfl
  | cons x xs ih =>
    obtain ⟨k, b⟩ := x
    rw [List.cons_append, Memory.read, if_neg (h (k, b) (by simp))]
    exact ih fun y hy => h y (by simp [hy])

theorem Memory.read_append_of_absent (c d : List Host.Cell) (a : Nat) (h : ∀ x ∈ d, x.1 ≠ a) :
    Memory.read (c ++ d) a = Memory.read c a := by
  induction c with
  | nil => exact Memory.read_of_absent d a h
  | cons x xs ih =>
    obtain ⟨k, b⟩ := x
    rw [List.cons_append, Memory.read, Memory.read, ih]

theorem Memory.read_filter (c : List Host.Cell) (p : Nat → Bool) (a : Nat) (ha : p a = true) :
    Memory.read (c.filter fun x => p x.1) a = Memory.read c a := by
  induction c with
  | nil => rfl
  | cons x xs ih =>
    obtain ⟨k, b⟩ := x
    by_cases hk : p k = true
    · rw [List.filter_cons_of_pos (by simpa using hk), Memory.read, Memory.read, ih]
    · rw [List.filter_cons_of_neg (by simpa using hk), Memory.read, if_neg (fun (e : k = a) => hk (e ▸ ha)), ih]

theorem Memory.read_run (base : Nat) (bytes : List Byte) (a : Nat) (ha : base ≤ a) :
    Memory.read (Memory.run base bytes) a = bytes.getD (a - base) Memory.erasedByte := by
  induction bytes generalizing base with
  | nil => simp [Memory.run, Memory.read]
  | cons b rest ih =>
    rw [Memory.run]
    by_cases he : base = a
    · subst he
      have hn : ∀ x ∈ Memory.run (base + 1) rest, x.1 ≠ base := fun x hx => by
        have := Memory.run_range _ _ x hx; omega
      split
      · rename_i hb; rw [Memory.read_of_absent _ _ hn]; simp [hb]
      · rw [Memory.read, if_pos rfl]; simp
    · have hs : a - base = (a - (base + 1)) + 1 := by omega
      split
      · rw [ih (base + 1) (by omega), hs]; rfl
      · rw [Memory.read, if_neg he, ih (base + 1) (by omega), hs]; rfl

/-- Inside the laid addresses an address reads as its byte, or as an erased byte past the last one. -/
theorem Memory.read_lay_inside (cells : List Host.Cell) (base len : Nat) (bytes : List Byte) (a : Nat) (h1 : base ≤ a)
    (h2 : a < base + len) :
    Memory.read (Memory.lay cells base len bytes) a = bytes.getD (a - base) Memory.erasedByte := by
  unfold Memory.lay
  rw [Memory.read_append_of_absent _ _ _ (fun x hx => by have := (List.mem_filter.mp hx).2; simp at this; omega)]
  rw [Memory.read_append_absent _ _ _ (fun x hx => by have := (List.mem_filter.mp hx).2; simp at this; omega)]
  rw [Memory.read_run _ _ _ h1]
  simp only [List.getD_eq_getElem?_getD, List.getElem?_take]
  rw [if_pos (by omega)]

/-- Outside the laid addresses an address reads as before. -/
theorem Memory.read_lay_outside (cells : List Host.Cell) (base len : Nat) (bytes : List Byte) (a : Nat)
    (h : a < base ∨ base + len ≤ a) : Memory.read (Memory.lay cells base len bytes) a = Memory.read cells a := by
  unfold Memory.lay
  have hlen : (bytes.take len).length ≤ len := by simp
  rcases h with h | h
  · rw [Memory.read_append_of_absent _ _ _ (fun x hx => by have := (List.mem_filter.mp hx).2; simp at this; omega)]
    rw [Memory.read_append_of_absent _ _ _ (fun x hx => by have := Memory.run_range _ _ x hx; omega)]
    exact Memory.read_filter cells (fun n => decide (n < base)) a (by simpa using h)
  · rw [Memory.read_append_absent _ _ _ (fun x hx => by
      rcases List.mem_append.mp hx with hx | hx
      · have := (List.mem_filter.mp hx).2; simp at this; omega
      · have := Memory.run_range _ _ x hx; omega)]
    exact Memory.read_filter cells (fun n => decide (base + len ≤ n)) a (by simpa using h)

end Sys2Proof.Machine
end

