-- ==== Sys2Proof/Laws/Images.lean ====
section
/-!
SUPPORT. The stored image: the records and the pages of an image that is in range are read back as they were written, and what a
region reads whose cells are one run of bytes.
-/

namespace Sys2Proof.Machine

/-! ### Records -/

/-- The bits of a flags byte of six flags. -/
theorem flags_bits : ∀ a b c d e f : Bool,
    let x := byteOf (flag a 1 + flag b 2 + flag c 4 + flag d 8 + flag e 16 + flag f 32)
    x.getLsbD 0 = a ∧ x.getLsbD 1 = b ∧ x.getLsbD 2 = c ∧ x.getLsbD 3 = d ∧ x.getLsbD 4 = e ∧ x.getLsbD 5 = f := by
  decide

/-- The bits of a flags byte of four flags. -/
theorem flags_bits_four (a b c d : Bool) :
    let x := byteOf (flag a 1 + flag b 2 + flag c 4 + flag d 8)
    x.getLsbD 0 = a ∧ x.getLsbD 1 = b ∧ x.getLsbD 2 = c ∧ x.getLsbD 3 = d := by
  have h := flags_bits a b c d false false
  simp only [flag, Bool.false_eq_true, if_false, Nat.add_zero] at h ⊢
  exact ⟨h.1, h.2.1, h.2.2.1, h.2.2.2.1⟩

/-- A station record that is in range is read back as it was written (11.3). -/
theorem StationConfig.ofBytes_toBytes (c : StationConfig) (h : 1 ≤ c.address.toNat ∧ c.address.toNat ≤ 127) :
    StationConfig.ofBytes c.toBytes = some c := by
  obtain ⟨en, ad, ho, al, lv, mo, de, re, sw, sm⟩ := c
  simp only [StationConfig.toBytes, StationConfig.ofBytes, finOf_byteOf lv (by omega), finOf_byteOf de (by omega),
    finOf_byteOf re (by omega)]
  rw [if_pos h]
  have hf := flags_bits en (decide (ho = .b)) (decide (al = .other)) (decide (mo = .descriptor)) sw sm
  simp only [StationConfig.flags, hf]
  cases ho <;> cases al <;> cases mo <;> rfl

/-- A slot record that is in range is read back as it was written. -/
theorem Slot.ofBytes_toBytes (s : Slot) (h : s.InRange) : Slot.ofBytes s.toBytes = some s := by
  obtain ⟨o, d, p, fx⟩ := s
  obtain ⟨h1, h2, h3⟩ := h
  cases fx with
  | none => simp [Slot.toBytes, Slot.ofBytes, fixedBytes, boolByte, flag, byteOf, wordBytes, h1, h2]
  | some x =>
    have hx := h3 x rfl
    obtain ⟨st, k, pt, ct, pr, w, fl⟩ := x
    simp only [FixedFields.InRange] at hx
    simp [Slot.toBytes, Slot.ofBytes, fixedBytes, FixedFields.ofBytes, wordBytes, h1, h2, finOf_byteOf st (by omega),
      finOf_byteOf pr (by omega), finOf_byteOf w (by omega), hx]
    simp [boolByte, flag, byteOf]

/-- A descriptor record that is in range is read back as it was written. -/
theorem Descriptor.ofBytes_toBytes (d : Descriptor) (h : d.InRange) : Descriptor.ofBytes d.toBytes = some d := by
  obtain ⟨k, pt, pe, re, pr, w, ap, ao, ea, fe⟩ := d
  simp only [Descriptor.InRange] at h
  simp only [Descriptor.toBytes, Descriptor.ofBytes, wordBytes, List.cons_append, List.nil_append, xferKindOf_code,
    finOf_byteOf pr (by omega), finOf_byteOf w (by omega), wordOf_wordBytes]
  rw [if_pos h]
  have hf := flags_bits_four ap ao fe (decide (ea = .acknowledge))
  simp only [Descriptor.flags, hf]
  cases ea <;> rfl

@[simp] theorem StationConfig.length_toBytes (c : StationConfig) : c.toBytes.length = 8 := rfl
@[simp] theorem Descriptor.length_toBytes (d : Descriptor) : d.toBytes.length = 16 := rfl
@[simp] theorem PortSettings.length_toBytes (c : PortSettings) : c.toBytes.length = 5 := rfl
@[simp] theorem BankHeader.length_toBytes (c : BankHeader) : c.toBytes.length = 5 := rfl
@[simp] theorem Slot.length_toBytes (s : Slot) : s.toBytes.length = 16 := by
  obtain ⟨o, d, p, fx⟩ := s
  cases fx <;> rfl

/-! ### What is read is in range -/

theorem PortSettings.inRange_of_ofBytes {l : List Byte} {c : PortSettings} (h : PortSettings.ofBytes l = some c) :
    c.InRange := by
  unfold PortSettings.ofBytes at h
  split at h
  · split at h
    · split at h
      · rename_i hr
        injection h with h
        subst h
        exact hr
      · cases h
    · cases h
  · cases h

theorem BankHeader.inRange_of_ofBytes {l : List Byte} {c : BankHeader} (h : BankHeader.ofBytes l = some c) :
    10 ≤ c.period.toNat := by
  unfold BankHeader.ofBytes at h
  split at h
  · split at h
    · split at h
      · rename_i hr
        injection h with h
        subst h
        exact hr
      · cases h
    · cases h
  · cases h

theorem StationConfig.inRange_of_ofBytes {l : List Byte} {c : StationConfig} (h : StationConfig.ofBytes l = some c) :
    c.InRange := by
  unfold StationConfig.ofBytes at h
  split at h
  · split at h
    · split at h
      · rename_i hr
        injection h with h
        subst h
        exact hr
      · cases h
    · cases h
  · cases h

theorem FixedFields.inRange_of_ofBytes {a b : Byte} {p : Word} {c d e f : Byte} {x : FixedFields}
    (h : FixedFields.ofBytes a b p c d e f = some x) : x.InRange := by
  unfold FixedFields.ofBytes at h
  split at h
  · split at h
    · rename_i hr
      injection h with h
      subst h
      exact hr
    · cases h
  · cases h

theorem Slot.inRange_of_ofBytes {l : List Byte} {x : Slot} (h : Slot.ofBytes l = some x) : x.InRange := by
  unfold Slot.ofBytes at h
  split at h
  · split at h
    · rename_i hr
      split at h
      · injection h with h; subst h; exact ⟨hr.1, hr.2, fun x hx => by cases hx⟩
      · split at h
        · split at h
          · rename_i f hf
            injection h with h; subst h
            exact ⟨hr.1, hr.2, fun x hx => by cases hx; exact FixedFields.inRange_of_ofBytes hf⟩
          · cases h
        · cases h
    · cases h
  · cases h

theorem Descriptor.inRange_of_ofBytes {l : List Byte} {x : Descriptor} (h : Descriptor.ofBytes l = some x) :
    x.InRange := by
  unfold Descriptor.ofBytes at h
  split at h
  · split at h
    · split at h
      · rename_i hr
        injection h with h
        subst h
        exact hr
      · cases h
    · cases h
  · cases h

/-- Each of the readings that `readAll` gives is its reader's. -/
theorem readAll_some {α : Type} {n : Nat} {f : Fin n → Option α} {v : Vector α n} (h : readAll n f = some v) (i : Fin n) :
    f i = some v[i] := by
  unfold readAll at h
  split at h
  · injection h with h
    subst h
    simp
  · cases h

/-- An image that start-up applies is in range (R168, step 3). -/
theorem Image.inRange_of_ofPages {b : List Byte} {m : Image} (h : Image.ofPages b = some m) : m.InRange := by
  unfold Image.ofPages at h
  split at h
  · rename_i hpa hpb _ _ _ _ hha hhb _
    split at h
    · rename_i hst hxa hxb hds
      split at h
      · cases h
      · rename_i hc
        injection h with h
        subst h
        exact {
          portA := PortSettings.inRange_of_ofBytes hpa
          portB := PortSettings.inRange_of_ofBytes hpb
          headerA := BankHeader.inRange_of_ofBytes hha
          headerB := BankHeader.inRange_of_ofBytes hhb
          stations := fun i => StationConfig.inRange_of_ofBytes (readAll_some hst i)
          slotsA := fun i => Slot.inRange_of_ofBytes (readAll_some hxa i)
          slotsB := fun i => Slot.inRange_of_ofBytes (readAll_some hxb i)
          descriptors := fun i => Descriptor.inRange_of_ofBytes (readAll_some hds i)
          noClash := by simpa using hc }
    · cases h
  · cases h

/-- The image that a region's start-up check gives is in range. -/
theorem Region.inRange_of_check {r : Region} {x : StartSource} {m : Image} (h : r.check = (x, some m)) : m.InRange := by
  unfold Region.check at h
  split at h
  · split at h
    · split at h
      · rename_i hm
        injection h with _ h
        injection h with h
        subst h
        exact Image.inRange_of_ofPages hm
      · injection h with _ h; cases h
    · injection h with _ h; cases h
  · injection h with _ h; cases h

/-! ### Runs of records -/

/-- A run of records of one size has that many bytes for each. -/
theorem length_flatMap_const {α : Type} (l : List α) (g : α → List Byte) (n : Nat) (hg : ∀ a, (g a).length = n) :
    (l.flatMap g).length = n * l.length := by
  induction l with
  | nil => simp
  | cons a l ih => simp [hg, ih, Nat.mul_add, Nat.add_comm]

/-- The record of an index in a run of records of one size. -/
theorem take_drop_flatMap {α : Type} (l : List α) (g : α → List Byte) (n : Nat) (hg : ∀ a, (g a).length = n) (i : Nat)
    (hi : i < l.length) (rest : List Byte) : ((l.flatMap g ++ rest).drop (n * i)).take n = g l[i] := by
  induction l generalizing i with
  | nil => simp at hi
  | cons a l ih =>
    cases i with
    | zero =>
      simp only [Nat.mul_zero, List.drop_zero, List.flatMap_cons, List.append_assoc, List.getElem_cons_zero]
      rw [List.take_append_of_le_length (by rw [hg]), List.take_of_length_le (by rw [hg])]
    | succ i =>
      have e : n * (i + 1) = (g a).length + n * i := by rw [hg]; ring
      simp only [List.flatMap_cons, List.append_assoc, List.getElem_cons_succ]
      rw [e, List.drop_append]
      have : (g a).length + n * i - (g a).length = n * i := by omega
      rw [this, List.drop_eq_nil_of_le (by omega), List.nil_append]
      exact ih i (by simpa using hi)

/-- A record of a run that begins behind a first part of `base` bytes. -/
theorem recordAt_flatMap {α : Type} (pre : List Byte) (l : List α) (g : α → List Byte) (n base : Nat)
    (hb : pre.length = base) (hg : ∀ a, (g a).length = n) (i : Nat) (hi : i < l.length) (rest : List Byte) :
    recordAt (pre ++ (l.flatMap g ++ rest)) base n i = g l[i] := by
  unfold recordAt
  rw [← hb, List.drop_append]
  have : pre.length + n * i - pre.length = n * i := by omega
  rw [this, List.drop_eq_nil_of_le (by omega), List.nil_append]
  exact take_drop_flatMap l g n hg i hi rest

/-- All of the readings, when each is known. -/
theorem readAll_eq {α : Type} (n : Nat) (f : Fin n → Option α) (v : Vector α n) (h : ∀ i : Fin n, f i = some v[i]) :
    readAll n f = some v := by
  unfold readAll
  have hs : ∀ i, (f i).isSome = true := fun i => by rw [h i]; rfl
  rw [dif_pos hs]
  congr 1
  apply Vector.ext
  intro i hi
  rw [Vector.getElem_ofFn]
  have := h ⟨i, hi⟩
  simp only [Option.get_of_eq_some _ this]
  rfl

/-! ### The pages of an image -/

theorem Image.length_settingsBytes (m : Image) : m.settingsBytes.length = 42 := by
  simp [Image.settingsBytes]

theorem Image.length_pageOne (m : Image) : (padTo Memory.pageSize m.settingsBytes).length = 256 := by
  rw [padTo, List.length_append, List.length_take, List.length_replicate, m.length_settingsBytes]
  rfl

/-- The first 26 bytes of the image pages, and the directions behind them. -/
theorem Image.pages_eq_settings (m : Image) : ∃ rest, m.pages =
    (m.arrangement.code :: m.portA.toBytes) ++ m.portB.toBytes ++
      [byteOf m.mask.val, byteOf m.demandLevel.val, m.enables.toByte, boolByte m.autostartA, boolByte m.autostartB] ++
      m.headerA.toBytes ++ m.headerB.toBytes ++ (m.directions.toList.map Direction.code ++ rest) := by
  have h : padTo Memory.pageSize m.settingsBytes = m.settingsBytes ++ List.replicate (256 - m.settingsBytes.length) 0 := by
    rw [padTo, List.take_of_length_le (by rw [m.length_settingsBytes]; decide)]
    rfl
  refine ⟨List.replicate (256 - m.settingsBytes.length) 0 ++ m.stations.toList.flatMap StationConfig.toBytes ++
    m.slotsA.toList.flatMap Slot.toBytes ++ m.slotsB.toList.flatMap Slot.toBytes ++
    m.descriptors.toList.flatMap Descriptor.toBytes, ?_⟩
  rw [Image.pages, h]
  generalize List.replicate (256 - m.settingsBytes.length) (0 : Byte) = pad
  simp only [Image.settingsBytes, List.append_assoc, List.cons_append, List.nil_append]

/-- The image pages of an image that is in range are read back as that image (R160, R168). -/
theorem Image.ofPages_pages (m : Image) (h : m.InRange) : Image.ofPages m.pages = some m := by
  obtain ⟨rest, hp⟩ := m.pages_eq_settings
  have hdir : ∀ i : Fin 16, directionOf (m.pages.getD (26 + i.val) 0) = some m.directions[i] := by
    intro i
    have e : m.pages.getD (26 + i.val) 0 = (m.directions[i]).code := by
      rw [hp, List.getD_append_right _ _ _ _ (by simp)]
      have : (26 + i.val) - (((m.arrangement.code :: m.portA.toBytes) ++ m.portB.toBytes ++
        [byteOf m.mask.val, byteOf m.demandLevel.val, m.enables.toByte, boolByte m.autostartA, boolByte m.autostartB] ++
        m.headerA.toBytes ++ m.headerB.toBytes).length) = i.val := by simp
      rw [this, List.getD_append _ _ _ _ (by simp)]
      simp [List.getD_eq_getElem?_getD]
    rw [e, directionOf_code]
  have hst : ∀ i : Fin 64, StationConfig.ofBytes (recordAt m.pages 256 8 i.val) = some m.stations[i] := by
    intro i
    have : m.pages = padTo Memory.pageSize m.settingsBytes ++ (m.stations.toList.flatMap StationConfig.toBytes ++
        (m.slotsA.toList.flatMap Slot.toBytes ++ (m.slotsB.toList.flatMap Slot.toBytes ++
        m.descriptors.toList.flatMap Descriptor.toBytes))) := by simp [Image.pages]
    rw [this, recordAt_flatMap _ _ _ 8 256 m.length_pageOne (fun _ => rfl) i.val (by simp)]
    simpa using StationConfig.ofBytes_toBytes _ (h.stations i)
  have hla : (m.stations.toList.flatMap StationConfig.toBytes).length = 512 := by
    rw [length_flatMap_const _ _ 8 (fun _ => rfl)]; simp
  have hlb : (m.slotsA.toList.flatMap Slot.toBytes).length = 2048 := by
    rw [length_flatMap_const _ _ 16 Slot.length_toBytes]; simp
  have hlc : (m.slotsB.toList.flatMap Slot.toBytes).length = 2048 := by
    rw [length_flatMap_const _ _ 16 Slot.length_toBytes]; simp
  have hxa : ∀ i : Fin 128, Slot.ofBytes (recordAt m.pages 768 16 i.val) = some m.slotsA[i] := by
    intro i
    have : m.pages = (padTo Memory.pageSize m.settingsBytes ++ m.stations.toList.flatMap StationConfig.toBytes) ++
        (m.slotsA.toList.flatMap Slot.toBytes ++ (m.slotsB.toList.flatMap Slot.toBytes ++
        m.descriptors.toList.flatMap Descriptor.toBytes)) := by simp [Image.pages]
    rw [this, recordAt_flatMap _ _ _ 16 768 (by rw [List.length_append, m.length_pageOne, hla]) Slot.length_toBytes i.val
      (by simp)]
    simpa using Slot.ofBytes_toBytes _ (h.slotsA i)
  have hxb : ∀ i : Fin 128, Slot.ofBytes (recordAt m.pages 2816 16 i.val) = some m.slotsB[i] := by
    intro i
    have : m.pages = (padTo Memory.pageSize m.settingsBytes ++ m.stations.toList.flatMap StationConfig.toBytes ++
        m.slotsA.toList.flatMap Slot.toBytes) ++ (m.slotsB.toList.flatMap Slot.toBytes ++
        m.descriptors.toList.flatMap Descriptor.toBytes) := by simp [Image.pages]
    rw [this, recordAt_flatMap _ _ _ 16 2816 (by rw [List.length_append, List.length_append, m.length_pageOne, hla, hlb])
      Slot.length_toBytes i.val (by simp)]
    simpa using Slot.ofBytes_toBytes _ (h.slotsB i)
  have hds : ∀ i : Fin 32, Descriptor.ofBytes (recordAt m.pages 4864 16 i.val) = some m.descriptors[i] := by
    intro i
    have : m.pages = (padTo Memory.pageSize m.settingsBytes ++ m.stations.toList.flatMap StationConfig.toBytes ++
        m.slotsA.toList.flatMap Slot.toBytes ++ m.slotsB.toList.flatMap Slot.toBytes) ++
        (m.descriptors.toList.flatMap Descriptor.toBytes ++ []) := by simp [Image.pages]
    rw [this, recordAt_flatMap _ _ _ 16 4864 (by
      rw [List.length_append, List.length_append, List.length_append, m.length_pageOne, hla, hlb, hlc])
      (fun _ => rfl) i.val (by simp)]
    simpa using Descriptor.ofBytes_toBytes _ (h.descriptors i)
  have hpa : recordAt m.pages 1 5 0 = m.portA.toBytes := by rw [hp]; rfl
  have hpb : recordAt m.pages 6 5 0 = m.portB.toBytes := by rw [hp]; rfl
  have hha : recordAt m.pages 16 5 0 = m.headerA.toBytes := by rw [hp]; rfl
  have hhb : recordAt m.pages 21 5 0 = m.headerB.toBytes := by rw [hp]; rfl
  have g0 : m.pages.getD 0 0 = m.arrangement.code := by rw [hp]; rfl
  have g11 : m.pages.getD 11 0 = byteOf m.mask.val := by rw [hp]; rfl
  have g12 : m.pages.getD 12 0 = byteOf m.demandLevel.val := by rw [hp]; rfl
  have g13 : m.pages.getD 13 0 = m.enables.toByte := by rw [hp]; rfl
  have g14 : m.pages.getD 14 0 = boolByte m.autostartA := by rw [hp]; rfl
  have g15 : m.pages.getD 15 0 = boolByte m.autostartB := by rw [hp]; rfl
  have hen : Enables.ofByte m.enables.toByte = m.enables := by
    obtain ⟨a, b, c, d, e⟩ := m.enables
    cases a <;> cases b <;> cases c <;> cases d <;> cases e <;> rfl
  rw [Image.ofPages, readAll_eq 16 _ _ hdir, readAll_eq 64 _ _ hst, readAll_eq 128 _ _ hxa, readAll_eq 128 _ _ hxb,
    readAll_eq 32 _ _ hds, hpa, hpb, hha, hhb, g0, g11, g12, g13, g14, g15, hen]
  simp only [arrangementOf_code, PortSettings.ofBytes_toBytes _ h.portA, PortSettings.ofBytes_toBytes _ h.portB,
    finOf_byteOf m.mask (by omega), finOf_byteOf m.demandLevel (by omega), boolOf_boolByte,
    BankHeader.ofBytes_toBytes _ h.headerA, BankHeader.ofBytes_toBytes _ h.headerB]
  rw [h.noClash]
  rfl

/-- The image pages are 5376 bytes, pages 1 to 21. -/
theorem Image.length_pages (m : Image) : m.pages.length = 5376 := by
  rw [Image.pages]
  simp only [List.length_append, m.length_pageOne, length_flatMap_const _ _ 8 StationConfig.length_toBytes,
    length_flatMap_const _ _ 16 Slot.length_toBytes, length_flatMap_const _ _ 16 Descriptor.length_toBytes,
    Vector.length_toList]

/-! ### A region that is one run of bytes -/

/-- A region whose cells are one run from address 0 on reads that run. -/
theorem Region.bytes_run (l : List Byte) (n base len : Nat) (h : base + len ≤ l.length) :
    Region.bytes ⟨Memory.run 0 l, Vector.replicate 64 false, n⟩ base len = (l.drop base).take len := by
  apply List.ext_getElem
  · simp [Region.bytes]; omega
  · intro i h1 h2
    have hi : i < len := by simpa [Region.bytes] using h1
    simp only [Region.bytes, List.getElem_map, List.getElem_range, Region.read, Region.isTorn]
    have : ((Vector.replicate 64 false)[(base + i) / Memory.pageSize]?).getD false = false := by
      by_cases hk : (base + i) / Memory.pageSize < 64
      · simp [hk]
      · simp [hk]
    rw [this]
    simp only [Bool.false_eq_true, if_false]
    rw [Memory.read_run _ _ _ (Nat.zero_le _)]
    simp only [Nat.sub_zero]
    rw [List.getD_eq_getElem _ _ (by omega)]
    simp

/-- A region that holds the marker, an image check and image pages, and nothing else. -/
def Region.holding (check : Word) (pages : List Byte) : Region :=
  ⟨Memory.run 0 (Region.marker ++ wordBytes check ++ List.replicate 250 0xFF ++ pages), Vector.replicate 64 false, 0⟩

/-- What such a region reads: the marker, the check and the pages. -/
theorem Region.bytes_holding (check : Word) (pages : List Byte) (h : pages.length = 5376) :
    (Region.holding check pages).isTorn 0 = false ∧ (Region.holding check pages).bytes 0 4 = Region.marker ∧
      (Region.holding check pages).bytes 4 2 = wordBytes check ∧ (Region.holding check pages).bytes 256 5376 = pages := by
  have hm : (Region.marker ++ wordBytes check ++ List.replicate 250 0xFF).length = 256 := by
    rw [List.length_append, List.length_append, List.length_replicate]
    rfl
  refine ⟨rfl, ?_, ?_, ?_⟩
  · rw [Region.holding, Region.bytes_run _ _ _ _ (by rw [List.length_append, hm, h]; decide)]
    generalize List.replicate 250 (0xFF : Byte) = pad
    simp [Region.marker]
  · rw [Region.holding, Region.bytes_run _ _ _ _ (by rw [List.length_append, hm, h]; decide)]
    generalize List.replicate 250 (0xFF : Byte) = pad
    simp [Region.marker, wordBytes]
  · rw [Region.holding, Region.bytes_run _ _ _ _ (by rw [List.length_append, hm, h])]
    rw [List.drop_append, hm]
    simp only [Nat.sub_self, List.drop_zero]
    rw [List.drop_eq_nil_of_le (by rw [hm]), List.nil_append, List.take_of_length_le (by rw [h])]

/-- A region that holds an image in range under its own check is found VALID with that image. -/
theorem Image.check_held (m : Image) (h : m.InRange) :
    (Region.holding (frameCheck m.pages) m.pages).check = (.image, some m) := by
  obtain ⟨h1, h2, h3, h4⟩ := Region.bytes_holding (frameCheck m.pages) m.pages m.length_pages
  have hp : (Region.holding (frameCheck m.pages) m.pages).imagePages = m.pages := h4
  rw [Region.check, Region.holdsMarker, Region.checkGood, hp, h1, h2, h3, m.ofPages_pages h]
  simp

end Sys2Proof.Machine
end

