-- ==== Sys2Proof/Laws/Link.lean ====
section
/-!
SUPPORT. What the arrival of a request's frame does, once for all requests.
-/

namespace Sys2Proof.Machine

/-- A request that arrives with nothing in processing is handed to its owner in `State.inDispatch`, and its reply is placed. -/
theorem State.receiveFrame_idle (s : State) (f : Frame) (hp : s.processing = none) (hl : f.payload.length ≤ 250) :
    s.receiveFrame f =
      ((s.inDispatch f).handle f).state.placeReply f ((s.inDispatch f).handle f).reply s.tx := by
  simp [State.receiveFrame, Config.maxPayload, hl, State.acceptFrame, hp, State.dispatch, State.inDispatch]

/-- A request that changes nothing but what the link owns. -/
@[simp] theorem State.inDispatch_placeReply (s : State) (f : Frame) (r : Reply) :
    (s.inDispatch f).placeReply f r s.tx = s.replied f r := by
  simp only [State.inDispatch, State.reserveTx, State.placeReply, State.replied, State.transmit]
  cases s.tx <;> rfl

/-- A request whose effect leaves the transmitter alone and is the same beside a dispatch's marks. -/
theorem State.placeReply_of_quiet (s : State) (f : Frame) (r : Reply) (g : State → State)
    (h : g (s.inDispatch f) = { g s with rx := .hunting, tx := (s.inDispatch f).tx }) (ht : (g s).tx = s.tx) :
    (g (s.inDispatch f)).placeReply f r s.tx = (g s).replied f r := by
  rw [h]
  simp only [State.placeReply, State.replied, State.transmit, ht]
  cases s.tx <;> simp

/-- While a request is dispatched, the transmitter is not free. -/
theorem State.inDispatch_tx (s : State) (f : Frame) : ∃ x, (s.inDispatch f).tx = some x := by
  simp only [State.inDispatch, State.reserveTx]
  cases s.tx with
  | none => exact ⟨_, rfl⟩
  | some x => exact ⟨x, rfl⟩

/-- The reply is placed where `State.HoldsReply` looks for it. -/
theorem State.placeReply_holds (s u : State) (f : Frame) (r : Reply) (h : u.rx = .hunting) :
    s.HoldsReply (u.placeReply f r s.tx) f r := by
  simp only [State.HoldsReply, State.placeReply, State.transmit]
  cases s.tx <;> simp [h]

/-! ### What a request's owner reads while it is dispatched -/

@[simp] theorem State.inDispatch_pending (s : State) (f : Frame) : (s.inDispatch f).pending = s.pending := rfl
@[simp] theorem State.inDispatch_lr1 (s : State) (f : Frame) : (s.inDispatch f).lr1 = s.lr1 := rfl
@[simp] theorem State.inDispatch_lr0 (s : State) (f : Frame) : (s.inDispatch f).lr0 = s.lr0 := rfl
@[simp] theorem State.inDispatch_storeWp (s : State) (f : Frame) : (s.inDispatch f).storeWp = s.storeWp := rfl
@[simp] theorem State.inDispatch_time (s : State) (f : Frame) : (s.inDispatch f).time = s.time := rfl
@[simp] theorem State.inDispatch_linkRate (s : State) (f : Frame) : (s.inDispatch f).linkRate = s.linkRate := rfl
@[simp] theorem State.inDispatch_processing (s : State) (f : Frame) : (s.inDispatch f).processing = s.processing := rfl
@[simp] theorem State.inDispatch_held (s : State) (f : Frame) : (s.inDispatch f).held = s.held := rfl
@[simp] theorem State.inDispatch_replySlot (s : State) (f : Frame) : (s.inDispatch f).replySlot = s.replySlot := rfl
@[simp] theorem State.inDispatch_notices (s : State) (f : Frame) : (s.inDispatch f).notices = s.notices := rfl
@[simp] theorem State.inDispatch_overrun (s : State) (f : Frame) : (s.inDispatch f).overrun = s.overrun := rfl
@[simp] theorem State.inDispatch_arrangement (s : State) (f : Frame) : (s.inDispatch f).arrangement = s.arrangement := rfl
@[simp] theorem State.inDispatch_mask (s : State) (f : Frame) : (s.inDispatch f).mask = s.mask := rfl
@[simp] theorem State.inDispatch_demandLevel (s : State) (f : Frame) : (s.inDispatch f).demandLevel = s.demandLevel := rfl
@[simp] theorem State.inDispatch_enables (s : State) (f : Frame) : (s.inDispatch f).enables = s.enables := rfl
@[simp] theorem State.inDispatch_stations (s : State) (f : Frame) : (s.inDispatch f).stations = s.stations := rfl
@[simp] theorem State.inDispatch_attention (s : State) (f : Frame) : (s.inDispatch f).attention = s.attention := rfl
@[simp] theorem State.inDispatch_stack (s : State) (f : Frame) : (s.inDispatch f).stack = s.stack := rfl
@[simp] theorem State.inDispatch_descriptors (s : State) (f : Frame) : (s.inDispatch f).descriptors = s.descriptors := rfl
@[simp] theorem State.inDispatch_claims (s : State) (f : Frame) : (s.inDispatch f).claims = s.claims := rfl
@[simp] theorem State.inDispatch_pairs (s : State) (f : Frame) : (s.inDispatch f).pairs = s.pairs := rfl
@[simp] theorem State.inDispatch_portA (s : State) (f : Frame) : (s.inDispatch f).portA = s.portA := rfl
@[simp] theorem State.inDispatch_portB (s : State) (f : Frame) : (s.inDispatch f).portB = s.portB := rfl
@[simp] theorem State.inDispatch_engineA (s : State) (f : Frame) : (s.inDispatch f).engineA = s.engineA := rfl
@[simp] theorem State.inDispatch_engineB (s : State) (f : Frame) : (s.inDispatch f).engineB = s.engineB := rfl
@[simp] theorem State.inDispatch_region (s : State) (f : Frame) : (s.inDispatch f).region = s.region := rfl
@[simp] theorem State.inDispatch_imageState (s : State) (f : Frame) : (s.inDispatch f).imageState = s.imageState := rfl
@[simp] theorem State.inDispatch_startSource (s : State) (f : Frame) : (s.inDispatch f).startSource = s.startSource := rfl
@[simp] theorem State.inDispatch_store (s : State) (f : Frame) : (s.inDispatch f).store = s.store := rfl
@[simp] theorem State.inDispatch_station (s : State) (f : Frame) (x : Fin 64) : (s.inDispatch f).station x = s.station x := rfl
@[simp] theorem State.inDispatch_attn (s : State) (f : Frame) (x : Fin 64) : (s.inDispatch f).attn x = s.attn x := rfl
@[simp] theorem State.inDispatch_descriptor (s : State) (f : Frame) (x : Fin 32) : (s.inDispatch f).descriptor x = s.descriptor x := rfl
@[simp] theorem State.inDispatch_claim (s : State) (f : Frame) (x : Fin 32) : (s.inDispatch f).claim x = s.claim x := rfl
@[simp] theorem State.inDispatch_pair (s : State) (f : Frame) (x : Fin 16) : (s.inDispatch f).pair x = s.pair x := rfl
@[simp] theorem State.inDispatch_engine (s : State) (f : Frame) (x : Engine) : (s.inDispatch f).engine x = s.engine x := by
  cases x <;> rfl
@[simp] theorem State.inDispatch_port (s : State) (f : Frame) (x : PortId) : (s.inDispatch f).port x = s.port x := by
  cases x <;> rfl
@[simp] theorem State.inDispatch_serviceLevel (s : State) (f : Frame) : (s.inDispatch f).serviceLevel = s.serviceLevel := rfl
@[simp] theorem State.inDispatch_escalatedHead (s : State) (f : Frame) : (s.inDispatch f).escalatedHead = s.escalatedHead := rfl
@[simp] theorem State.inDispatch_escalatedCount (s : State) (f : Frame) : (s.inDispatch f).escalatedCount = s.escalatedCount := rfl

end Sys2Proof.Machine
end

