-- ==== Sys2Proof/Laws/PerInstr.lean ====
section
/-!
SUPPORT. Per-command facts about the command as syntax: every request command's frame fits the host link and names a request.
-/

namespace Sys2Proof.Laws.RequestFits

open Sys2Proof.Machine

/-- The frame of a well-formed request command carries at most 250 payload bytes (R147), under a KIND of 11.4. -/
def Statement (i : Instr) : Prop :=
  ∀ f, requestFrame i = some f → i.wellFormed = true → f.payload.length ≤ 250 ∧ 1 ≤ f.kind.toNat ∧ f.kind.toNat ≤ 0x22

/-- A request whose frame fits whatever its operands are. -/
theorem of_frame {i : Instr} {f : Frame} (h : requestFrame i = some f)
    (hf : (Nat.ble f.payload.length 250 && Nat.ble 1 f.kind.toNat && Nat.ble f.kind.toNat 0x22) = true) : Statement i := by
  intro g hg _
  rw [h, Option.some.injEq] at hg
  subst hg
  simpa [and_assoc] using hf

/-- An event has no request frame. -/
theorem of_event {i : Instr} (h : requestFrame i = none) : Statement i := by
  intro f hf
  rw [h] at hf
  exact absurd hf (by simp)

theorem identify (tag : Byte) : Statement (.identify tag) := of_frame rfl rfl

theorem getStatus (tag : Byte) : Statement (.getStatus tag) := of_frame rfl rfl

theorem restart (tag : Byte) : Statement (.restart tag) := of_frame rfl rfl

theorem timeSet (tag : Byte) (value : Stamp) : Statement (.timeSet tag value) := of_frame rfl rfl

theorem partSet (tag mask level enables : Byte) : Statement (.partSet tag mask level enables) := of_frame rfl rfl

theorem partGet (tag : Byte) : Statement (.partGet tag) := of_frame rfl rfl

theorem arrange (tag arrangement : Byte) : Statement (.arrange tag arrangement) := of_frame rfl rfl

theorem portSet (tag port rate parity stopBits timeout gap : Byte) :
    Statement (.portSet tag port rate parity stopBits timeout gap) := of_frame rfl rfl

theorem portGet (tag port : Byte) : Statement (.portGet tag port) := of_frame rfl rfl

theorem lineStart (tag engine : Byte) : Statement (.lineStart tag engine) := of_frame rfl rfl

theorem lineStop (tag engine mode : Byte) : Statement (.lineStop tag engine mode) := of_frame rfl rfl

theorem lineStatus (tag engine : Byte) : Statement (.lineStatus tag engine) := of_frame rfl rfl

theorem stationSet (tag station flags address level descriptor retries : Byte) :
    Statement (.stationSet tag station flags address level descriptor retries) := of_frame rfl rfl

theorem stationGet (tag station : Byte) : Statement (.stationGet tag station) := of_frame rfl rfl

theorem slotSet (tag engine slot kind : Byte) (offset : Word) (divisor phase station request : Byte) (point : Word)
    (count pair wordOffset flipAfter : Byte) :
    Statement
    (.slotSet tag engine slot kind offset divisor phase station request point count pair wordOffset flipAfter) := of_frame rfl rfl

theorem slotGet (tag engine bank slot : Byte) : Statement (.slotGet tag engine bank slot) := of_frame rfl rfl

theorem bankHeaderSet (tag engine : Byte) (period : Word) (slotCount : Byte) (slack : Word) :
    Statement (.bankHeaderSet tag engine period slotCount slack) := of_frame rfl rfl

theorem bankHeaderGet (tag engine bank : Byte) : Statement (.bankHeaderGet tag engine bank) := of_frame rfl rfl

theorem bankCopy (tag engine : Byte) : Statement (.bankCopy tag engine) := of_frame rfl rfl

theorem bankSwap (tag engine action : Byte) : Statement (.bankSwap tag engine action) := of_frame rfl rfl

theorem descriptorSet (tag descriptor kind : Byte) (point : Word)
    (perTransfer remaining pair wordOffset flags : Byte) :
    Statement (.descriptorSet tag descriptor kind point perTransfer remaining pair wordOffset flags) := of_frame rfl rfl

theorem descriptorGet (tag descriptor : Byte) : Statement (.descriptorGet tag descriptor) := of_frame rfl rfl

theorem pairSet (tag pair direction : Byte) : Statement (.pairSet tag pair direction) := of_frame rfl rfl

theorem pairGet (tag pair : Byte) : Statement (.pairGet tag pair) := of_frame rfl rfl

theorem pairRead (tag pair start count : Byte) : Statement (.pairRead tag pair start count) := of_frame rfl rfl

theorem pairWrite (tag pair start : Byte) (words : List Word) :
    Statement (.pairWrite tag pair start words) := by
  intro f hf hw
  simp only [requestFrame, Option.some.injEq] at hf
  subst hf
  rw [Instr.wellFormed, Bool.and_eq_true, decide_eq_true_eq] at hw
  have h := hw.1
  simp only [Instr.runLength, Config.maxPayload] at h
  refine ⟨?_, by simp, by simp⟩
  simp [length_wordsBytes]
  omega

theorem pairRelease (tag pair : Byte) : Statement (.pairRelease tag pair) := of_frame rfl rfl

theorem pairCommit (tag pair : Byte) : Statement (.pairCommit tag pair) := of_frame rfl rfl

theorem demand (tag engine station kind : Byte) (point : Word) (count : Byte) (words : List Word) :
    Statement (.demand tag engine station kind point count words) := by
  intro f hf hw
  simp only [requestFrame, Option.some.injEq] at hf
  subst hf
  rw [Instr.wellFormed, Bool.and_eq_true, decide_eq_true_eq] at hw
  have h := hw.1
  simp only [Instr.runLength, Config.maxPayload] at h
  refine ⟨?_, by simp, by simp⟩
  simp [length_wordsBytes, wordBytes]
  omega

theorem take (tag : Byte) : Statement (.take tag) := of_frame rfl rfl

theorem done (tag : Byte) : Statement (.done tag) := of_frame rfl rfl

theorem storeSave (tag autostartA autostartB : Byte) : Statement (.storeSave tag autostartA autostartB) := of_frame rfl rfl

theorem storeErase (tag : Byte) : Statement (.storeErase tag) := of_frame rfl rfl

theorem storeCancel (tag : Byte) : Statement (.storeCancel tag) := of_frame rfl rfl

theorem requestFrameComplete (rest : List Byte) : Statement (.requestFrameComplete rest) := of_event rfl

theorem hostGapTimerExpiry : Statement .hostGapTimerExpiry := of_event rfl

theorem replySent : Statement .replySent := of_event rfl

theorem noticeSent : Statement .noticeSent := of_event rfl

theorem powerOn (lr1 lr0 : Level) : Statement (.powerOn lr1 lr0) := of_event rfl

theorem resetPin (lr1 lr0 : Level) : Statement (.resetPin lr1 lr0) := of_event rfl

theorem storeWpAsserted (pins : BoardPins) : Statement (.storeWpAsserted pins) := of_event rfl

theorem blockEraseComplete (erased : Bool) : Statement (.blockEraseComplete erased) := of_event rfl

theorem eraseTimeout : Statement .eraseTimeout := of_event rfl

theorem pageProgramComplete (how : ProgramEnd) : Statement (.pageProgramComplete how) := of_event rfl

theorem programTimeout : Statement .programTimeout := of_event rfl

theorem periodExpiry (engine : Engine) : Statement (.periodExpiry engine) := of_event rfl

theorem slotStartTime (engine : Engine) : Statement (.slotStartTime engine) := of_event rfl

theorem requestFrameSent (port : PortId) : Statement (.requestFrameSent port) := of_event rfl

theorem replyTimeout (port : PortId) : Statement (.replyTimeout port) := of_event rfl

theorem replyFrameComplete (port : PortId) (rest : List Byte) : Statement (.replyFrameComplete port rest) := of_event rfl

theorem replyGapExpiry (port : PortId) : Statement (.replyGapExpiry port) := of_event rfl

theorem discardLimitReached (last : LastCharacter) : Statement (.discardLimitReached last) := of_event rfl

theorem abortedCharacterEnd (port : PortId) : Statement (.abortedCharacterEnd port) := of_event rfl

theorem turnaroundGapExpiry (port : PortId) : Statement (.turnaroundGapExpiry port) := of_event rfl

theorem lineLow (port : PortId) : Statement (.lineLow port) := of_event rfl

theorem lineHigh (port : PortId) : Statement (.lineHigh port) := of_event rfl

theorem lineMonitorTimerExpiry (port : PortId) : Statement (.lineMonitorTimerExpiry port) := of_event rfl

theorem fieldCharacterReceived (port : PortId) (value : Byte) (sample : CharSample) :
    Statement (.fieldCharacterReceived port value sample) := of_event rfl

theorem hostByteReceived (value : Byte) (sample : ByteSample) : Statement (.hostByteReceived value sample) := of_event rfl

end Sys2Proof.Laws.RequestFits
end

