-- ==== Sys2Proof/Laws/Ports.lean ====
section
/-!
SUPPORT. What each operation of a Line Port does to the port's agreement with its phase (`Port.PhaseFits`), and the two ends of
the transmitter's frame.
-/

namespace Sys2Proof.Machine

/-- A port outside IDLE has its monitor SUSPENDED. -/
theorem Port.PhaseFits.suspended {p : Port} (h : p.PhaseFits) (hp : p.phase ≠ .idle) : p.monitor = .suspended := by
  by_contra hm
  exact hp (h.1.mpr hm)

/-- A port outside a reply window holds no character and waits for no high level. -/
theorem Port.PhaseFits.quiet {p : Port} (h : p.PhaseFits) (hp : p.receiving = false) :
    p.rxChar = none ∧ p.rxBreak = false := by
  refine ⟨?_, ?_⟩
  · by_contra hc
    rw [h.2.2.1 hc] at hp
    cases hp
  · cases hb : p.rxBreak with
    | false => rfl
    | true => rw [(h.2.2.2 hb).1] at hp; cases hp

theorem Port.phaseFits_send {p : Port} (a : Attempt) (h : p.PhaseFits) (hp : p.receiving = false) : (p.send a).PhaseFits := by
  obtain ⟨hc, hb⟩ := h.quiet hp
  exact ⟨by simp [Port.send], rfl, by simp [Port.send, hc], by simp [Port.send, hb]⟩

theorem Port.phaseFits_take {p : Port} (a : Attempt) (h : p.PhaseFits) : (p.take a).PhaseFits := by
  unfold Port.take
  split
  · rename_i hp
    exact Port.phaseFits_send a h (by simp [Port.receiving, hp])
  · exact h

theorem Port.phaseFits_turn {p : Port} (h : p.PhaseFits) (hp : p.phase ≠ .idle) : p.turn.PhaseFits := by
  have hm := h.suspended hp
  exact ⟨by simp [Port.turn, Port.begin, hm], rfl, by simp [Port.turn, Port.begin], by simp [Port.turn, Port.begin]⟩

theorem Port.phaseFits_ready {p : Port} (h : p.PhaseFits) (hp : p.phase = .turnaround) : p.ready.PhaseFits := by
  obtain ⟨hc, hb⟩ := h.quiet (by simp [Port.receiving, hp])
  have hs : p.shifter = none := by simpa [Port.de, hp] using h.2.1
  refine ⟨?_, by simp [Port.ready, Port.de, hs], by simp [Port.ready, hc], by simp [Port.ready, hb]⟩
  cases hr : p.rxd <;> simp [Port.ready, Monitor.ofLevel, hr]

/-- A character's end leaves a receiver that is on with no character, waiting for high exactly behind a low stop bit (R5). -/
theorem Port.phaseFits_charEnds {p : Port} (stop : Level) (h : p.PhaseFits) (hp : p.receiving = true) :
    (p.charEnds stop).PhaseFits :=
  ⟨h.1, h.2.1, by simp [Port.charEnds], fun hb => ⟨hp, by simpa [Port.charEnds] using hb, rfl⟩⟩

theorem Port.phaseFits_startChar {p : Port} (h : p.PhaseFits) (hp : p.receiving = true) (hb : p.rxBreak = false) :
    p.startChar.PhaseFits :=
  ⟨h.1, h.2.1, fun _ => hp, fun hx => by simp [Port.startChar, hb] at hx⟩

/-- A transmitter that has just begun shifts the first character and holds the second (R4). -/
theorem Shifter.begun (f : CharFormat) (c : Byte) (cs : List Byte) :
    (Shifter.mk f (c :: cs) 0).shifting = some c ∧ (Shifter.mk f (c :: cs) 0).held = cs.head? := by
  cases cs <;> simp [Shifter.shifting, Shifter.held, Shifter.index, Shifter.bitTime]

end Sys2Proof.Machine
end

