-- ==== Sys2Proof/Tests/Slice0.lean ====
section
/-!
SUPPORT. Small tests on fixed values: the checks of WellFormed, one or two steps of each family, and for each statement with
hypotheses a state and operands that meet them, at the ends of their ranges.
-/

namespace Sys2Proof.Tests

open Sys2Proof.Machine

set_option maxRecDepth 8000

/-! ### Small states -/

/-- The part after reset, its STARTED notice sent. -/
def idle : State := { State.reset with tx := none }

/-- The state a command leaves. -/
def after (c : Instr) (s : State) : State :=
  match exec c s with
  | .next t => t
  | .fault _ => s
  | .refused _ => s

/-- The KIND and payload of the frame being sent. -/
def sent (s : State) : Option (Byte × List Byte) := s.tx.map fun x => (x.content.frame.kind, x.content.frame.payload)

/-- The result code that a request command is answered with in a state whose transmitter is free. -/
def result (c : Instr) (s : State) : Option Byte :=
  match sent (after c s) with
  | some (_, r :: _) => some r
  | some (_, []) => none
  | none => none

/-- An enabled station. -/
def onLine (line : Line) (address : Byte) (lv : Fin 8) (mode : ServiceMode) : StationConfig :=
  { enabled := true, address := address, home := line, alternate := .other, level := lv, mode := mode, descriptor := 2,
    retries := 1, switchOnRetry := true, sweepMember := true }

/-- The part with station 5 on line A. -/
def one : State := idle.withStation 5 fun _ => .fresh (onLine .a 6 4 .host)

/-- The part with station 5's record in a state, at level 4 and class 1. -/
def claimed (x : AttnState) : State := one.setAttn 5 ⟨x, 4, 1⟩

/-- The fields of a FIXED READ of one word of station 5 into pair 0, with a flip behind it. -/
def readFive : FixedFields := ⟨5, .read, 0x0102, 1, 0, 127, true⟩

/-- The FIXED slot of that READ, at offset 2. -/
def slotFive : Slot := ⟨2, 1, 0, some readFive⟩

/-- Engine A with one slot, period 1.0 ms, running from its cycle start on. -/
def engineOf (sl : Slot) (elapsed : Nat) (activity : Activity) : EngineState :=
  { EngineState.reset with
    bankX := { header := ⟨10, 1, 3⟩, slots := (Vector.replicate 128 Slot.reset).set 0 sl }
    run := .running, activity := activity, timer := some ⟨10, elapsed⟩ }

/-- The transaction of that slot. -/
def tr : Transaction :=
  { subject := 5, source := .fixed 0 readFive, request := ⟨6, .read, 0x0102, 1, []⟩, expected := 1, limit := 2, made := 0,
    lastLine := some .a, statuses := [], readData := [], outcome := none }

/-- The attempt of that transaction. -/
def att : Attempt := ⟨.a, tr.request, 1⟩

/-- Engine A holds that transaction. -/
def inFlight : State :=
  { (one.withStation 5 fun st => { st with inTransaction := some .a }) with
    engineA := { engineOf slotFive 250 (.inTransaction tr) with started := true } }

/-- The transmitter of that attempt's frame at a moment. -/
def frameAt (elapsed : Nat) : Shifter := ⟨PortSettings.reset.format, att.request.wire, elapsed⟩

/-- Port A in a phase, with that transaction in flight; its monitor is SUSPENDED, and in SENDING its frame has begun. -/
def atPort (ph : PortPhase) : State := inFlight.withPort .a fun x =>
  { x with
    phase := ph, monitor := .suspended
    shifter := match ph with
      | .sending _ => some (frameAt 0)
      | _ => none }

/-- A character at port A under EVEN with a good parity bit and the stop bit at a level. -/
def char (v : Byte) (stop : Level) : Instr :=
  .fieldCharacterReceived .a v ⟨if onesOf v % 2 = 1 then .high else .low, stop⟩

/-- A reply to that attempt behind its sync: address, status, count 1 and the word 0x1234, with its check. -/
def replyFive (status : Byte) : List Byte :=
  [6, status, 1] ++ wordsBytes [0x1234] ++ wordBytes (frameCheck ([6, status, 1] ++ wordsBytes [0x1234]))

/-! ### WellFormed refuses what the outside cannot send -/

theorem test_wellFormed_pairWrite : (Instr.pairWrite 0 0 0 (List.replicate 125 0)).wellFormed = false ∧
    (Instr.pairWrite 0 0 0 (List.replicate 124 0)).wellFormed = true := by decide

theorem test_wellFormed_demand : (Instr.demand 0 0 0 2 0 0 (List.replicate 123 0)).wellFormed = false ∧
    (Instr.demand 0 0 0 2 0 0 (List.replicate 122 0)).wellFormed = true := by decide

theorem test_wellFormed_requestFrame : (Instr.requestFrameComplete []).wellFormed = false ∧
    (Instr.requestFrameComplete (List.replicate 257 0)).wellFormed = false ∧
    (Instr.requestFrameComplete [0]).wellFormed = true := by decide

theorem test_wellFormed_replyFrame : (Instr.replyFrameComplete .a []).wellFormed = false ∧
    (Instr.replyFrameComplete .a (List.replicate 39 0)).wellFormed = false ∧
    (Instr.replyFrameComplete .a [0]).wellFormed = true := by decide

theorem test_noWordSpellsACommand (nbits w : Nat) : decodeTableWord nbits w = none := rfl

/-! ### The queue and the link -/

theorem witness_step : ({ idle with pending := [.partGet 1] } : State).pending = .partGet 1 :: [] ∧ idle.pending = [] := by
  decide

/-- The frame of IDENTIFY in processing, with its reply being sent. -/
def answering : State := after (.identify 7) idle

/-- That, with a request held. -/
def holding : State := after (.partGet 8) answering

theorem witness_buffers : requestFrame (.pairWrite 0 0 0 []) = some ⟨0x1A, 0, [0, 0]⟩ ∧
    250 < (Frame.mk 0x1A 0 ([0, 0] ++ wordsBytes (List.replicate 125 0))).payload.length ∧
    answering.processing = some ⟨1, 7, []⟩ ∧ answering.held = none ∧
    holding.processing = some ⟨1, 7, []⟩ ∧ holding.held = some ⟨6, 8, []⟩ ∧ idle.processing = none := by decide

theorem test_identify_reply : sent answering =
    some (0x81, [0, 0x2E, 0x01, 0x08, 1, 64, 2, 128, 32, 16, 128, 8, 32, 4]) := by decide

/-- The bytes of a frame of IDENTIFY, less its last check byte. -/
def taken : List Byte := [0, 1, 7, 0x88]

/-- Its last check byte. -/
def lastByte : Byte := 0x11

theorem witness_receiver : (0 : Byte).toNat ≤ 250 ∧ [(0 : Byte), 1].length + 1 < (0 : Byte).toNat + 5 ∧
    taken.length + 1 = (0 : Byte).toNat + 5 ∧
    taken ++ [lastByte] = (Frame.mk 1 7 []).covered ++ wordBytes (frameCheck (Frame.mk 1 7 []).covered) ∧
    250 < (251 : Byte).toNat ∧ ¬ 250 < (250 : Byte).toNat := by decide

theorem witness_receiver_badCheck : taken.length + 1 = (0 : Byte).toNat + 5 ∧
    ∀ f : Frame, f.payload.length ≤ 250 →
      taken ++ [lastByte + 1] ≠ f.covered ++ wordBytes (frameCheck f.covered) := by
  refine ⟨by decide, ?_⟩
  intro f _ h
  obtain ⟨k, g, p⟩ := f
  have hl := congrArg List.length h
  simp [taken, Frame.covered, wordBytes] at hl
  have hp : p = [] := hl
  subst hp
  simp only [taken, Frame.covered, wordBytes, List.cons_append, List.nil_append, List.cons.injEq, and_true] at h
  obtain ⟨_, h1, h2, _, h4⟩ := h
  subst h1
  subst h2
  revert h4
  decide

theorem witness_frameComplete : (0xC3 : Byte) :: ((Frame.mk 1 7 []).covered ++ [1, 2]) =
      [0xC3, 0, 1] ++ [7, 1, 2] ∧ ({ idle with rx := .assembling [0, 1] } : State).rx = .assembling [0, 1] ∧
    idle.rx = .hunting ∧ (Instr.identify 7).wellFormed = true := by decide

theorem witness_receiver_waits : (after (.hostByteReceived 0 ⟨.low, true⟩) idle).rx = .waitHigh ∧
    (after (.hostByteReceived 0xC3 ⟨.high, false⟩) { idle with rx := .waitHigh }).rx = .waitHigh ∧
    (after (.hostByteReceived 0xC3 ⟨.high, true⟩) { idle with rx := .waitHigh }).rx = .assembling [] := by decide

theorem test_hostBytes :
    (after (.hostByteReceived lastByte ⟨.high, true⟩) { idle with rx := .assembling taken }).tx = answering.tx := by decide

theorem test_frameComplete :
    (after (.requestFrameComplete (0xC3 :: (taken ++ [lastByte]))) idle).tx = answering.tx := by decide

/-- A notice of the part, and the state with one queued behind another. -/
def note : Notice := .lineCall .b .b

/-- That state: STARTED is being sent. -/
def noted : State := State.reset.raise note

theorem witness_transmitter : noted.tx = State.reset.tx ∧ State.reset.replySlot = none ∧ State.reset.notices = [] ∧
    noted.notices = [⟨note, 0⟩] ∧ (after (.identify 7) State.reset).replySlot.isSome = true ∧
    (∀ r us, State.reset.tx ≠ some ⟨.reply r, us⟩) ∧
    answering.tx = some ⟨.reply ((Frame.mk 1 7 []).answer ⟨.ok, [0x2E, 0x01, 0x08, 1, 64, 2, 128, 32, 16, 128, 8, 32, 4]⟩), 0⟩ ∧
    answering.replySlot = none ∧ requestFrame (.partGet 8) = holding.held := by
  refine ⟨by decide, by decide, by decide, by decide, by decide, ?_, by decide, by decide, by decide⟩
  intro r us h
  cases h

theorem test_heldRequestIsTaken : (after .replySent holding).processing = some ⟨6, 8, []⟩ ∧
    (after .replySent holding).held = none := by decide

/-- A frame of an unknown KIND is held like any other. -/
def holdingUnknown : State := after (.requestFrameComplete (Frame.mk 0x90 9 [1]).wire) answering

theorem witness_heldUnknown : holdingUnknown.held = some ⟨0x90, 9, [1]⟩ ∧ (Frame.mk 0x90 9 [1]).payload.length ≤ 250 ∧
    holdingUnknown.tx = answering.tx := by decide

theorem test_heldUnknown : sent (after .replySent holdingUnknown) = some (0xFF, [2]) := by decide

theorem witness_unusedBytes : requestFrame (.stationSet 1 5 1 6 0 0 0) = some ⟨0x0D, 1, [5, 1, 6, 0, 0, 0, 0, 0, 0]⟩ ∧
    idle.rx = .hunting ∧ idle.processing = none := by decide

theorem test_unusedBytes :
    (after (.requestFrameComplete (Frame.mk 0x0D 1 [5, 1, 6, 0, 0, 0, 9, 8, 7]).wire) idle).stations =
      (after (.stationSet 1 5 1 6 0 0 0) idle).stations := by decide

theorem test_noticeSent : (after .noticeSent noted).tx = some ⟨.notice ⟨note, 0⟩, 0⟩ := by decide

theorem witness_raise : note.enabled idle.enables = true ∧
    note.enabled { idle.enables with lineState := false } = false ∧ idle.tx = none ∧ idle.replySlot = none ∧
    idle.notices = [] ∧ State.reset.notices.length < 32 ∧
    32 ≤ ({ State.reset with notices := List.replicate 32 ⟨note, 0⟩ } : State).notices.length := by decide

theorem test_noticeFrame : (Raised.mk note 0x01020304).frame = ⟨0x46, 0, [1, 1, 1, 0, 0, 1, 2, 3, 4]⟩ ∧
    (Raised.mk (.escalation 63 8 2 .descriptor (some .endAction) 64 7) 0).frame =
      ⟨0x42, 0, [63, 8, 2, 1, 0, 4, 64, 7, 0, 0, 0, 0]⟩ ∧
    (Raised.mk (.storeResult true (.programFailed 21) .invalid) 0).frame = ⟨0x48, 0, [0, 4, 21, 0, 0, 0, 0, 0, 0]⟩ := by decide

theorem test_fieldFrame : (FieldRequest.mk 6 .write 0x0102 1 [0x1234]).wire =
    [0x5A, 6, 2, 1, 2, 1, 0x12, 0x34, 0xEA, 0xB7] := by decide

/-- The check of the digits 1 to 9 is the published check value of the cyclic redundancy check that R6 describes. -/
theorem test_frameCheck : frameCheck [0x31, 0x32, 0x33, 0x34, 0x35, 0x36, 0x37, 0x38, 0x39] = 0xAEE7 ∧ frameCheck [] = 0xFFFF ∧
    frameCheck [0x80] = 0x7E01 := by decide

/-- 0xC1 has three ones: EVEN adds a fourth. -/
theorem test_charLevels : (CharFormat.mk 3 .even .two).levels 0xC1 =
      [.low, .high, .low, .low, .low, .low, .low, .high, .high, .high, .high, .high] ∧
    (CharFormat.mk 3 .none .one).levels 0xC1 = [.low, .high, .low, .low, .low, .low, .low, .high, .high, .high] ∧
    (CharFormat.mk 3 .odd .one).isClean 0xC1 .low .high = true ∧ (CharFormat.mk 3 .odd .one).isClean 0xC1 .high .high = false ∧
    (CharFormat.mk 3 .none .one).isClean 0xC1 .low .high = true ∧ (CharFormat.mk 3 .none .one).isClean 0xC1 .low .low = false := by
  decide

/-- At 9600 bit/s and 11 bits, the frame's third character shifts from bit time 22 on, 2292 microseconds in. -/
theorem test_shifter : (frameAt 2291).index = 1 ∧ (frameAt 2292).index = 2 ∧ (frameAt 2292).shifting = some 1 ∧
    (frameAt 2292).held = some 1 ∧ (frameAt 2292).cut.chars = [0x5A, 6, 1] ∧
    (atPort (.sending (some att))).portA.txd = .low ∧ idle.portA.txd = .high ∧
    ((atPort (.sending (some att))).advance 105).portA.shifter = some (frameAt 105) := by decide

/-- At 19200 bit/s STARTED's sync leaves in bit times of 52.1 microseconds, and its LEN's start bit follows at 521. -/
theorem test_hlTxd : State.reset.hlTxd = .low ∧ (State.reset.advance 53).hlTxd = .high ∧ (State.reset.advance 160).hlTxd = .low ∧
    (State.reset.advance 520).hlTxd = .high ∧ (State.reset.advance 521).hlTxd = .low ∧
    (State.reset.advance 7813).hlTxd = .high ∧ idle.hlTxd = .high := by decide

theorem test_fullQueueSetsOverrun :
    (({ State.reset with notices := List.replicate 32 ⟨note, 0⟩ } : State).raise note).overrun = true ∧
    (({ State.reset with notices := List.replicate 31 ⟨note, 0⟩ } : State).raise note).overrun = false := by decide

theorem witness_refusals : lengthAllowed 1 1 = false ∧ lengthAllowed 0x1A 5 = false ∧ lengthAllowed 0x1D 40 = false ∧
    lengthAllowed 0x1A 242 = true ∧ (0x22 : Byte).toNat ≤ 0x22 ∧ 0x22 < (0x23 : Byte).toNat := by decide

theorem test_badKind_badLength :
    sent (after (.requestFrameComplete (Frame.mk 0x23 1 []).wire) idle) = some (0xA3, [ResultCode.badKind.code]) ∧
    sent (after (.requestFrameComplete (Frame.mk 0x80 1 []).wire) idle) = some (0xFF, [ResultCode.badKind.code]) ∧
    sent (after (.requestFrameComplete (Frame.mk 0x02 1 [0]).wire) idle) = some (0x82, [ResultCode.badLength.code]) := by
  decide

/-! ### Part-wide requests -/

theorem witness_restart : (after (.restart 1) idle).processing = some ⟨3, 1, []⟩ ∧
    (after (.restart 1) idle).tx = some ⟨.reply ⟨0x83, 1, [0]⟩, 0⟩ := by decide

theorem test_restart_samplesStraps :
    (after .replySent (after (.storeWpAsserted ⟨.high, .high, .low⟩) (after (.restart 1) idle))).linkRate = ⟨.high, .low⟩ := by decide

theorem test_timeSet : (after (.timeSet 1 0xFFFFFFFF) idle).time = 0xFFFFFFFF := by decide

theorem test_partSet : result (.partSet 1 7 7 0) idle = some 0 ∧
    result (.partSet 1 8 0 0) idle = some ResultCode.badValue.code ∧
    result (.partSet 1 0 8 0) idle = some ResultCode.badValue.code := by decide

theorem witness_maskSet : (7 : Byte) = byteOf (7 : Fin 8).val ∧ (0 : Fin 8) = (claimed .pending).mask ∧
    ((claimed .pending).attn 5).state = .pending ∧ ((claimed .pending).station 5).config.mode = .host ∧
    (3 : Fin 8) ≠ (claimed .pending).mask ∧ (3 : Fin 8).val < ((claimed .pending).attn 5).level.val ∧
    ¬ (4 : Fin 8).val < ((claimed .pending).attn 5).level.val := by decide

theorem test_maskSet : ((after (.partSet 1 3 0 0xFF) (claimed .pending)).attn 5).state = .escalated ∧
    ((after (.partSet 1 4 0 0xFF) (claimed .pending)).attn 5).state = .pending ∧
    (after (.partSet 1 3 0 0xFF) (claimed .pending)).notices =
      [⟨.escalation 5 4 1 .host (some .mask) 1 0, 0⟩] := by decide

/-! ### Ports, stations and the arrangement -/

theorem test_portSet : result (.portSet 1 1 8 2 2 3 16) idle = some 0 ∧
    result (.portSet 1 2 8 2 2 3 16) idle = some ResultCode.badValue.code ∧
    result (.portSet 1 0 8 2 2 3 17) idle = some ResultCode.badValue.code ∧
    result (.portSet 1 0 3 1 1 1 3) inFlight = some ResultCode.lineRunning.code := by decide

theorem test_portGet : sent (after (.portGet 1 0) idle) = some (0x89, [0, 3, 1, 1, 1, 3, 1, 0, 0]) ∧
    result (.portGet 1 2) idle = some ResultCode.badValue.code := by decide

theorem test_stationSet : result (.stationSet 1 63 1 127 7 31 3) idle = some 0 ∧
    result (.stationSet 1 64 1 127 7 31 3) idle = some ResultCode.badValue.code ∧
    result (.stationSet 1 5 1 6 4 2 1) inFlight = some ResultCode.stationActive.code ∧
    result (.stationSet 1 63 1 6 7 31 3) one = some ResultCode.duplicateAddress.code ∧
    result (.stationSet 1 63 3 6 7 31 3) one = some 0 := by decide

theorem witness_stationSet : (6 : Byte) ≠ 0 ∧ (one.station 5).inTransaction = none ∧
    ((claimed .pending).attn 5).state = .pending ∧
    (∀ j : Fin 64, j ≠ 5 → (one.station j).config.enabled = true → (one.station j).config.address = 6 →
      one.arrangement = .independent ∧ (one.station j).config.home ≠ .a) ∧
    ((claimed .serving).attn 5).state ≠ .clear ∧ ((claimed .serving).attn 5).state ≠ .pending ∧
    (inFlight.station 5).inTransaction ≠ none := by decide

theorem test_stationSet_reevaluates :
    ((after (.stationSet 1 5 1 6 7 2 1) (claimed .pending)).attn 5) = ⟨.escalated, 7, 1⟩ ∧
    ((after (.stationSet 1 5 1 6 0 2 1) (claimed .pending)).attn 5) = ⟨.pending, 0, 1⟩ ∧
    ((after (.stationSet 1 5 0 6 7 2 1) (claimed .pending)).attn 5) = ⟨.clear, 0, 0⟩ := by decide

theorem test_stationGet : sent (after (.stationGet 1 5) (claimed .pending)) =
    some (0x8E, [0, 0x35, 6, 4, 2, 1, 0, 0, 0, 0, 0, 0, 0, 0, 0, 0, 0, 0, 1, 4, 1, 1]) ∧
    result (.stationGet 1 64) idle = some ResultCode.badValue.code := by decide

theorem test_arrange : result (.arrange 1 1) one = some 0 ∧ (after (.arrange 1 1) one).arrangement = .paired ∧
    result (.arrange 1 2) one = some ResultCode.badValue.code ∧
    result (.arrange 1 1) inFlight = some ResultCode.lineRunning.code ∧
    result (.arrange 1 1) (one.withStation 6 fun _ => .fresh (onLine .b 6 4 .host)) =
      some ResultCode.duplicateAddress.code := by decide

theorem witness_arrange : one.engineA.run = .stopped ∧ one.engineB.run = .stopped ∧ inFlight.engineA.run ≠ .stopped ∧
    (1 : Byte) = Arrangement.paired.code ∧ 1 < (2 : Byte).toNat ∧
    ∃ i j : Fin 64, i ≠ j ∧
      ((one.withStation 6 fun _ => .fresh (onLine .b 6 4 .host)).station i).config.enabled = true ∧
      ((one.withStation 6 fun _ => .fresh (onLine .b 6 4 .host)).station j).config.enabled = true ∧
      ((one.withStation 6 fun _ => .fresh (onLine .b 6 4 .host)).station i).config.address =
        ((one.withStation 6 fun _ => .fresh (onLine .b 6 4 .host)).station j).config.address := by
  refine ⟨by decide, by decide, by decide, by decide, by decide, 5, 6, by decide, by decide, by decide, by decide⟩

/-! ### Timetables -/

theorem test_slotSet :
    result (.slotSet 1 1 127 1 0xFFFF 128 127 63 2 9 16 15 112 1) idle = some 0 ∧
    result (.slotSet 1 1 127 1 0xFFFF 128 128 63 2 9 16 15 112 1) idle = some ResultCode.badValue.code ∧
    result (.slotSet 1 1 127 1 0xFFFF 128 127 63 2 9 16 15 113 1) idle = some ResultCode.badValue.code ∧
    result (.slotSet 1 1 127 1 0xFFFF 128 127 63 3 9 16 15 127 1) idle = some 0 ∧
    result (.slotSet 1 1 128 0 0 1 0 0 0 0 0 0 0 0) idle = some ResultCode.badValue.code := by decide

theorem witness_slotSet : (128 : Byte).toNat ∈ [1, 2, 4, 8, 16, 32, 64, 128] ∧ (127 : Byte).toNat < (128 : Byte).toNat ∧
    (16 : Byte) ≠ 0 ∧ (16 : Byte).toNat ≤ 16 ∧ (112 : Fin 128).val + (16 : Byte).toNat ≤ 128 ∧
    (3 : Byte) = PollKind.status.code := by decide

theorem test_slotGet : sent (after (.slotGet 1 0 0 0) inFlight) =
    some (0x90, [0, 1, 1, 0, 2, 1, 0, 5, 1, 1, 2, 1, 0, 127, 1, 0, 0, 0]) ∧
    result (.slotGet 1 0 2 0) idle = some ResultCode.badValue.code := by decide

theorem test_bankHeader :
    ((after (.bankHeaderSet 1 0 10 128 0xFFFF) idle).engineA.bankY.header = ⟨10, 128, 0xFFFF⟩) ∧
    result (.bankHeaderSet 1 0 9 128 0) idle = some ResultCode.badValue.code ∧
    result (.bankHeaderSet 1 0 10 129 0) idle = some ResultCode.badValue.code ∧
    sent (after (.bankHeaderGet 1 0 0) inFlight) = some (0x92, [0, 0, 10, 1, 0, 3, 1, 0]) := by decide

theorem test_bankCopy_bankSwap : (after (.bankCopy 1 0) inFlight).engineA.bankY = inFlight.engineA.bankX ∧
    (after (.bankSwap 1 1 1) idle).engineB.swapArmed = true ∧
    result (.bankSwap 1 1 2) idle = some ResultCode.badValue.code ∧
    result (.bankCopy 1 2) idle = some ResultCode.badValue.code := by decide

theorem test_lineStatus : ((sent (after (.lineStatus 1 0) inFlight)).map fun x => x.2.take 18) =
    some [0, 1, 0, 2, 0, 0, 0, 0, 0, 0, 0, 0, 0, 5, 1, 0, 0, 0] ∧
    result (.lineStatus 1 2) idle = some ResultCode.badValue.code := by decide

/-! ### Descriptors and pairs -/

theorem test_descriptorSet : result (.descriptorSet 1 31 2 5 16 255 15 112 0xFF) idle = some 0 ∧
    result (.descriptorSet 1 31 2 5 16 255 15 113 0xFF) idle = some ResultCode.badValue.code ∧
    result (.descriptorSet 1 2 1 5 1 0 0 0 0) (idle.setClaim 2 (some .b)) = some ResultCode.descriptorBusy.code ∧
    result (.descriptorSet 1 32 1 5 1 0 0 0 0) idle = some ResultCode.badValue.code := by decide

theorem test_descriptorGet : sent (after (.descriptorGet 1 31) (idle.setClaim 31 (some .b))) =
    some (0x96, [0, 1, 0, 0, 1, 0, 0, 0, 0, 0, 0, 0, 0, 0, 0, 0, 0, 2, 0xFF]) ∧
    result (.descriptorGet 1 32) idle = some ResultCode.badValue.code := by decide

theorem witness_descriptorSet : idle.claim 2 = none ∧ (idle.setClaim 2 (some .b)).claim 2 ≠ none ∧
    requestFrame (.descriptorSet 1 2 1 5 1 0 0 0 0) =
      some ⟨0x15, 1, [2, 1, 0, 5, 1, 0, 0, 0, 0, 0, 0, 0, 0, 0, 0, 0, 0]⟩ := by decide

/-- Pair 3 set OUTPUT. -/
def output : State := idle.setPair 3 (.init .output)

theorem test_pairSet : (after (.pairSet 1 3 1) idle).pair 3 = .init .output ∧
    result (.pairSet 1 16 1) idle = some ResultCode.badValue.code ∧
    result (.pairSet 1 3 2) idle = some ResultCode.badValue.code ∧
    result (.pairSet 1 3 1) inFlight = some ResultCode.lineRunning.code := by decide

theorem test_pairGet : sent (after (.pairGet 1 3) output) =
    some (0x98, [0, 1, 0, 1, 2, 0, 0, 0, 0, 0, 0, 0, 0, 0, 0, 0]) := by decide

theorem test_pairWrite_pairRead :
    ((sent (after (.pairRead 2 3 126 2) (({ (after (.pairWrite 1 3 127 [0xABCD]) output) with
      tx := none, processing := none } : State)))).map Prod.snd) = some [0, 1, 2, 0, 0, 0, 0, 0xAB, 0xCD] ∧
    result (.pairWrite 1 3 127 [1, 2]) output = some ResultCode.badValue.code ∧
    result (.pairWrite 1 2 0 [1]) output = some ResultCode.wrongDirection.code ∧
    result (.pairRead 1 3 8 121) output = some ResultCode.badValue.code := by decide

theorem test_pairWrite_lengths : result (.pairWrite 1 3 0 []) output = some ResultCode.badLength.code ∧
    result (.pairWrite 1 3 0 (List.replicate 121 0)) output = some ResultCode.badLength.code ∧
    result (.pairWrite 1 3 8 (List.replicate 120 0)) output = some 0 := by decide

theorem test_pairCommit_pairRelease :
    ((after (.pairCommit 1 3) output).pair 3).hostState = .committed ∧
    result (.pairRelease 1 3) output = some ResultCode.wrongDirection.code ∧
    result (.pairCommit 1 2) output = some ResultCode.wrongDirection.code ∧
    ((after (.pairRelease 1 2) output).pair 2).hostState = .released ∧
    result (.pairWrite 1 3 0 [1]) { (after (.pairCommit 1 3) output) with tx := none, processing := none } =
      some ResultCode.pairCommitted.code := by decide

/-! ### Demands and the service stack -/

/-- A demand of station 5. -/
def dem : Demand := ⟨9, 5, .status, 0, 0, []⟩

/-- Engine A's queue full. -/
def queueFull : State := one.withEngine .a fun en => { en with demands := List.replicate 8 dem }

theorem test_demand : sent (after (.demand 1 0 5 2 7 16 (List.replicate 16 1)) one) =
      some (0x9D, [ResultCode.accepted.code, 1]) ∧
    result (.demand 1 0 5 2 7 16 (List.replicate 15 1)) one = some ResultCode.badLength.code ∧
    result (.demand 1 0 5 1 7 17 []) one = some ResultCode.badValue.code ∧
    result (.demand 1 1 5 1 7 16 []) one = some ResultCode.wrongLine.code ∧
    result (.demand 1 1 5 1 7 16 []) { one with arrangement := .paired } = some ResultCode.wrongArrangement.code := by decide

theorem test_demand_refusals : result (.demand 1 0 5 3 7 0 []) queueFull = some ResultCode.full.code ∧
    result (.demand 1 0 4 3 7 0 []) one = some ResultCode.stationDisabled.code ∧
    result (.demand 1 0 5 3 7 1 []) one = some ResultCode.badValue.code ∧
    result (.demand 1 0 5 3 7 0 [1]) one = some ResultCode.badLength.code := by decide

/-- The stack with a number of entries. -/
def stacked (n : Nat) : State := { claimed .escalated with stack := List.replicate n ⟨7, 3⟩ }

theorem witness_take : 4 ≤ (stacked 4).stack.length ∧ (stacked 3).stack.length < 4 ∧ (stacked 3).IsHead 5 ∧
    (stacked 3).serviceLevel < ((stacked 3).attn 5).level ∧
    (∀ i : Fin 64, ((claimed .pending).attn i).state = .escalated →
      ((claimed .pending).attn i).level ≤ (claimed .pending).serviceLevel) := by
  refine ⟨by decide, by decide, ?_, by decide, by decide⟩
  unfold State.IsHead
  decide

theorem test_take : sent (after (.take 1) (claimed .escalated)) =
      some (0x9E, [0, 5, 4, 1, 0, 0, 0, 0, 0, 0, 0, 0, 1, 0, 0]) ∧
    ((after (.take 1) (claimed .escalated)).attn 5).state = .held ∧
    result (.take 1) (stacked 4) = some ResultCode.stackFull.code ∧
    result (.take 1) idle = some ResultCode.none.code := by decide

/-- Station 5 HELD on the stack above another entry, with station 9 waiting at level 3. -/
def serving : State :=
  { ((claimed .held).setAttn 9 ⟨.escalated, 3, 1⟩).setAttn 7 ⟨.held, 2, 1⟩ with stack := [⟨5, 4⟩, ⟨7, 2⟩] }

theorem witness_done : serving.stack = ⟨5, 4⟩ :: [⟨7, 2⟩] ∧ idle.stack = [] ∧
    ({ (serving.setAttn 5 { serving.attn 5 with state := .acking }) with stack := [⟨7, 2⟩] } : State).IsHead 9 ∧
    (2 : Fin 9) < (serving.attn 9).level ∧
    (∀ j : Fin 64, ((claimed .held).attn j).state = .escalated → ((claimed .held).attn j).level ≤ 0) := by
  refine ⟨by decide, by decide, ?_, by decide, by decide⟩
  unfold State.IsHead
  decide

theorem test_done : sent (after (.done 1) serving) = some (0x9F, [0, 5, 5, 1, 2, 1]) ∧
    (after (.done 1) serving).notices = [⟨.escalation 9 3 1 .host none 1 2, 0⟩] ∧
    result (.done 1) idle = some ResultCode.stackEmpty.code := by decide

/-! ### The Image Store, reset and start-up -/

/-- The image of the part after reset. -/
def image : Image := State.reset.snapshot false false

/-- The part while a save programs a page, or erases. -/
def storing (x : Store) : State := { idle with store := x, imageState := .invalid }

theorem test_storeSave : result (.storeSave 1 1 1) idle = some ResultCode.accepted.code ∧
    result (.storeSave 1 2 1) idle = some ResultCode.badValue.code ∧
    result (.storeSave 1 1 1) { idle with storeWp := .low } = some ResultCode.isProtected.code ∧
    result (.storeErase 1) (storing (.erasing .erase 0)) = some ResultCode.busy.code ∧
    (after (.storeErase 1) idle).store = .erasing .erase 0 := by decide

theorem test_storeCancel : result (.storeCancel 1) idle = some ResultCode.notRunning.code ∧
    (after (.storeCancel 1) (storing (.erasing .erase 3))).notices =
      [⟨.storeResult false (.cancelled 1 false) .invalid, 0⟩] ∧
    (after (.storeWpAsserted ⟨.low, .low, .low⟩) (storing (.erasing .erase 3))).store = .idle ∧
    (after (.storeWpAsserted ⟨.high, .low, .low⟩) (storing (.erasing .erase 3))).store = .erasing .erase 3 := by decide

/-- The save's marker program has run to its end, its verify not yet taken. -/
def markedOut : State := after (.pageProgramComplete .unverified) (storing (.marking image false false))

theorem test_cancel_behindMarker : markedOut.region.isTorn 0 = false ∧
    (after (.storeWpAsserted ⟨.low, .low, .low⟩) markedOut).region.isTorn 0 = true := by decide

theorem test_erase : (after (.blockEraseComplete true) (storing (.erasing .erase 2))).store = .erasing .erase 3 ∧
    (after (.blockEraseComplete true) (storing (.erasing .erase 3))).store = .idle ∧
    (after .eraseTimeout (storing (.erasing .erase 3))).tx =
      some ⟨.notice ⟨.storeResult false (.eraseFailed 3) .invalid, 0⟩, 0⟩ := by decide

theorem test_program : (after (.pageProgramComplete .verified) (storing (.marking image true true))).imageState = .valid ∧
    (after .programTimeout (storing (.programming image 21 true false))).tx =
      some ⟨.notice ⟨.storeResult true (.programFailed 21) .invalid, 0⟩, 0⟩ ∧
    (after .programTimeout (storing (.marking image true true))).imageState = .invalid := by
  refine ⟨rfl, rfl, rfl⟩

theorem witness_store : (storing (.erasing .erase 3)).store = .erasing .erase 3 ∧
    (storing (.erasing (.save image) 3)).store = .erasing (.save image) 3 ∧
    (storing (.programming image 21 true false)).store = .programming image 21 true false ∧
    (storing (.marking image false true)).store = .marking image false true ∧ idle.store = .idle ∧
    idle.storeWp = .high := ⟨rfl, rfl, rfl, rfl, rfl, rfl⟩

theorem witness_reset : idle.region.check = (.noImage, none) ∧
    (after (.restart 1) idle).region.check = (.noImage, none) ∧
    (after (.restart 1) idle).processing = some ⟨3, 1, []⟩ ∧
    (after (.restart 1) idle).tx = some ⟨.reply ⟨0x83, 1, [0]⟩, 0⟩ := by decide

theorem test_powerOn : (after (.powerOn .high .low) inFlight).linkRate = ⟨.high, .low⟩ ∧
    (after (.powerOn .high .low) inFlight).engineA.run = .stopped ∧
    (after (.resetPin .low .high) inFlight).tx =
      some ⟨.notice ⟨.started .resetPin .noImage .invalid .independent false false, 0⟩, 0⟩ := by decide

theorem slot_reset_inRange : Slot.reset.InRange := ⟨by decide, by decide, fun _ h => by cases h⟩

theorem slotFive_inRange : slotFive.InRange :=
  ⟨by decide, by decide, fun _ h => by cases h; exact ⟨by decide, by decide, .inr (by decide)⟩⟩

theorem slots_inRange (i : Fin 128) : ((Vector.replicate 128 Slot.reset)[i]).InRange := by
  rw [show (Vector.replicate 128 Slot.reset)[i] = Slot.reset from Vector.getElem_replicate i.isLt]
  exact slot_reset_inRange

theorem descriptors_inRange (d : Fin 32) : ((Vector.replicate 32 Descriptor.reset)[d]).InRange := by
  rw [show (Vector.replicate 32 Descriptor.reset)[d] = Descriptor.reset from Vector.getElem_replicate d.isLt]
  exact ⟨by decide, by decide, by decide⟩

theorem image_inRange (m : Image) (hm : m = image ∨ m = { image with autostartA := true, autostartB := true }) :
    m.InRange := by
  have stations : ∀ i : Fin 64, 1 ≤ (image.stations[i]).address.toNat ∧ (image.stations[i]).address.toNat ≤ 127 := by
    decide +kernel
  rcases hm with rfl | rfl <;>
    exact ⟨⟨by decide, by decide⟩, ⟨by decide, by decide⟩, by decide, by decide, stations, slots_inRange, slots_inRange,
      descriptors_inRange, by decide +kernel⟩

/-- The part with an image in its region. -/
def imaged (m : Image) : State := { idle with region := .holding (frameCheck m.pages) m.pages }

theorem witness_imageIsHeld : (imaged image).region.check = (.image, some image) ∧
    (imaged { image with autostartA := true, autostartB := true }).region.check =
      (.image, some { image with autostartA := true, autostartB := true }) ∧ image.arrangement = .independent :=
  ⟨Image.check_held _ (image_inRange _ (.inl rfl)), Image.check_held _ (image_inRange _ (.inr rfl)), rfl⟩

theorem witness_savedImage : 1 ≤ image.portA.gap.toNat ∧ image.portA.gap.toNat ≤ 16 ∧ 10 ≤ image.headerB.period.toNat ∧
    image.slotsA[127] = Slot.reset ∧ Slot.reset.divisor.toNat ∈ [1, 2, 4, 8, 16, 32, 64, 128] ∧
    Slot.reset.phase.toNat < Slot.reset.divisor.toNat ∧ Slot.reset.fixed = none ∧
    (∀ i : Fin 64, image.stations[i].enabled = false) ∧ image.InRange := by
  exact ⟨by decide, by decide, by decide, by decide, by decide, by decide, rfl, by decide +kernel, image_inRange _ (.inl rfl)⟩

/-- Image pages that no save has written: a port setting is out of range. -/
def badPages : List Byte := List.replicate 5376 0

theorem witness_startUpChecks : Region.erased.isTorn 0 = false ∧
    Region.erased.bytes 0 4 ≠ [0x5A, 0xA5, 0xC3, 0x3C] ∧
    (Region.holding (frameCheck badPages) badPages).bytes 0 4 = [0x5A, 0xA5, 0xC3, 0x3C] ∧
    (Region.holding (frameCheck badPages) badPages).bytes 4 2 =
      wordBytes (frameCheck ((Region.holding (frameCheck badPages) badPages).bytes 256 5376)) ∧
    (((Region.holding (frameCheck badPages) badPages).bytes 256 5376).getD 3 0).toNat = 0 ∧
    Image.ofPages ((Region.holding (frameCheck badPages) badPages).bytes 256 5376) = none := by
  obtain ⟨_, h2, h3, h4⟩ := Region.bytes_holding (frameCheck badPages) badPages (List.length_replicate)
  rw [h4]
  refine ⟨rfl, by decide, h2, h3, by decide +kernel, ?_⟩
  have hp : PortSettings.ofBytes (recordAt badPages 1 5 0) = none := by decide +kernel
  rw [Image.ofPages, hp]
  split <;> simp_all

theorem witness_startUpChecks_badCheck :
    let r := Region.holding (frameCheck badPages + 1) badPages
    r.isTorn 0 = false ∧ r.bytes 0 4 = [0x5A, 0xA5, 0xC3, 0x3C] ∧
      r.bytes 4 2 ≠ wordBytes (frameCheck (r.bytes 256 5376)) := by
  intro r
  obtain ⟨h1, h2, h3, h4⟩ := Region.bytes_holding (frameCheck badPages + 1) badPages (List.length_replicate)
  refine ⟨h1, h2, ?_⟩
  rw [h4, h3]
  intro h
  have := congrArg (fun l => wordOf (l.getD 0 0) (l.getD 1 0)) h
  simp [wordBytes] at this

/-! ### Running the engines -/

theorem test_lineStart : (after (.lineStart 1 0) idle).engineA.run = .running ∧
    (after (.lineStart 1 0) idle).engineA.activity = .cycleWait ∧
    result (.lineStart 1 0) inFlight = some ResultCode.busy.code ∧
    result (.lineStart 1 1) { idle with arrangement := .paired } = some ResultCode.wrongArrangement.code ∧
    result (.lineStart 1 2) idle = some ResultCode.badValue.code := by decide

theorem test_lineStop : result (.lineStop 1 0 1) idle = some ResultCode.notRunning.code ∧
    (after (.lineStop 1 0 2) inFlight).engineA.run = .stopping .afterTransaction ∧
    result (.lineStop 1 0 1) { (after (.lineStop 1 0 2) inFlight) with tx := none, processing := none } =
      some ResultCode.alreadyStopping.code ∧
    (after (.lineStop 1 0 3) inFlight).engineA.run = .stopped ∧
    result (.lineStop 1 0 4) inFlight = some ResultCode.badValue.code := by decide

theorem witness_abort : inFlight.engineA.run = .running ∧ inFlight.engineA.activity = .inTransaction tr ∧
    (atPort (.sending (some att))).portA.phase = .sending (some att) ∧
    (atPort (.awaiting att false)).portA.phase = .awaiting att false ∧ att.engine = .a := by decide

theorem test_abort : (after (.lineStop 1 0 3) (atPort (.sending (some att)))).portA.phase = .sending none ∧
    (after (.lineStop 1 0 3) (atPort (.awaiting att false))).portA.phase = .turnaround ∧
    ((after (.lineStop 1 0 3) (atPort (.awaiting att false))).station 5).inTransaction = none := by decide

/-- A demand in flight and another in the queue end in that order, behind the reply, and then the engine is STOPPED. -/
theorem test_abort_notices : (after (.lineStop 1 0 3) (inFlight.withEngine .a fun en => { en with
      activity := .inTransaction { tr with source := .demand dem, made := 1 }, demands := [dem] })).notices =
    [⟨.demandResult 9 .a 5 .status .aborted 1 ⟨0, false, false⟩ [], 0⟩,
      ⟨.demandResult 9 .a 5 .status .discarded 0 ⟨0, false, false⟩ [], 0⟩, ⟨.lineStopped .a .abort 0, 0⟩] := by decide

/-- Engine A free at a moment of its cycle, waiting for its slot. -/
def waitingAt (elapsed : Nat) : State := { one with engineA := engineOf slotFive elapsed .waiting }

theorem witness_slots : (waitingAt 0).engineA.next = 0 ∧
    (waitingAt 0).engineA.cycle.toNat % slotFive.divisor.toNat = slotFive.phase.toNat ∧
    (2 : Nat) * 100 + 3 * 100 < 501 ∧ ¬ (2 : Nat) * 100 + 3 * 100 < 500 ∧
    (waitingAt 200).engineA.timer = some ⟨10, 200⟩ ∧ slotFive.offset.toNat < (10 : Word).toNat ∧
    (waitingAt 0).engineA.bankX.header.slotCount.val = 1 ∧ (waitingAt 0).engineA.activity = .waiting := by decide

theorem test_slots : ((waitingAt 199).takeSlots .a).engineA.activity = .waiting ∧
    ((waitingAt 501).takeSlots .a).engineA.tallies.skippedLate = 1 ∧
    (after (.slotStartTime .a) (waitingAt 0)).time = 200 ∧
    (after (.slotStartTime .a) (waitingAt 0)).portA.phase = .sending (some att) := by decide

/-- An offset at the period: the slot never starts, however late the engine becomes free. -/
def neverAt (elapsed : Nat) : State := { one with engineA := engineOf { slotFive with offset := 10 } elapsed .waiting }

theorem witness_slots_never : (neverAt 1000).engineA.timer = some ⟨10, 1000⟩ ∧
    (10 : Word).toNat ≤ ({ slotFive with offset := 10 } : Slot).offset.toNat ∧
    ((neverAt 1000).takeSlots .a).engineA.activity = .waiting := by decide

theorem test_noSlotStart : after (.slotStartTime .b) (waitingAt 0) = waitingAt 0 := rfl

theorem witness_fixedSlot : slotFive.fixed = some readFive ∧ (one.station 5).config.enabled = true ∧
    (one.station 5).health ≠ .offline ∧ (one.pair 0).direction = .capture ∧ one.arrangement = .independent ∧
    ((one.setPair 0 (.init .output)).pair 0).direction ≠ .capture := by decide

/-- Station 5 in DESCRIPTOR mode with a claim at a level, and engine A running. -/
def asking (x : AttnState) (lv : Fin 9) (left : Byte) : State :=
  ({ (one.withStation 5 fun _ => .fresh (onLine .a 6 4 .descriptor)) with
    engineA := engineOf ⟨0, 1, 0, none⟩ 0 .cycleWait } : State).setAttn 5 ⟨x, lv, 1⟩ |>.setDescriptor 2
      { Descriptor.reset with remaining := left }

theorem witness_grant_descriptor : ((asking .pending 8 1).attn 5).level = 8 ∧
    ((asking .pending 8 1).station 5).config.mode = .descriptor ∧
    ((asking .pending 8 1).descriptor 2).remaining ≠ 0 ∧ ((asking .pending 8 0).descriptor 2).remaining = 0 ∧
    ((asking .pending 8 1).pair ((asking .pending 8 1).descriptor 2).pair).direction = .capture ∧
    ((asking .acking 4 0).attn 5).state = .acking ∧ (asking .pending 4 1).claim 2 = none ∧
    (asking .pending 4 1).demandLevel.val < ((asking .pending 4 1).attn 5).level.val ∧
    ((asking .pending 3 1).attn 5).level.val ≤ (asking .pending 3 1).demandLevel.val := by decide

theorem test_grant_descriptor : ((asking .pending 8 1).grant .a).1.claim 2 = some .a ∧
    (((asking .pending 8 1).grant .a).1.attn 5).state = .serving ∧
    ((((asking .pending 8 0).grant .a).1.attn 5).state = .escalated) ∧ ((asking .pending 8 0).grant .a).2 = false ∧
    ((asking .acking 4 0).grant .a).2 = true := by decide

theorem test_grant_sweep :
    ((one.withEngine .a fun en => { en with run := .running, callPending := true }).grant .a).1.engineA.cursor = 6 ∧
    ((one.withEngine .a fun en => { en with run := .running, callPending := true, visited := [5] }).grant .a).1.engineA.callPending
      = false ∧
    ((one.withEngine .a fun en => { en with run := .running, demands := [dem] }).grant .a).1.engineA.demands = [] := by decide

theorem witness_grant_sweep : (one.station 5).config.sweepMember = true ∧ (one.attn 5).state = .clear ∧
    one.engineA.cursor + Fin.ofNat 64 5 = 5 ∧ one.engineA.visited = [] ∧
    (one.withEngine .a fun en => { en with run := .running, demands := [dem] }).engineA.demands = dem :: [] := by decide

/-- The part with a demand of a disabled station at the head of Engine A's queue. -/
def unfit : State := one.withEngine .a fun en => { en with run := .running, demands := [{ dem with station := 4 }, dem] }

theorem test_grant_unfitHead : (unfit.grant .a).1.tx =
      some ⟨.notice ⟨.demandResult 9 .a 4 .status .discarded 0 ⟨0, false, false⟩ [], 0⟩, 0⟩ ∧
    (unfit.grant .a).1.engineA.demands = [] ∧ (unfit.grant .a).2 = true := by decide

theorem witness_attentionSlot : Slot.reset.fixed = none ∧ ((asking .acking 4 0).grant .a).2 = true ∧
    (idle.grant .a).2 = false := by decide

theorem test_attentionSlot : ((asking .acking 4 0).startSlot .a 0 Slot.reset).1.engineA.tallies.executed = 1 ∧
    ((asking .acking 4 0).startSlot .a 0 Slot.reset).2 = true ∧
    (idle.startSlot .a 0 Slot.reset).1.engineA.tallies.idle = 1 ∧ (idle.startSlot .a 0 Slot.reset).2 = false := by decide

theorem witness_grant_passed : [(5 : Fin 64)].Nodup ∧ unfit.engineA.demands = { dem with station := 4 } :: [dem] ∧
    (unfit.station 4).config.enabled = false ∧
    ((one.withEngine .a fun en => { en with run := .running, callPending := true }).grantOrder .a [5]).2 = false := by decide

theorem test_periodExpiry : (after (.periodExpiry .a) (waitingAt 0)).engineA.cycle = 1 ∧
    (after (.periodExpiry .a) (waitingAt 0)).engineA.summary = ⟨true, 0, .x, ⟨0, 0, 0, 0, 0, 1, 0⟩⟩ ∧
    (after (.periodExpiry .a) (waitingAt 0)).time = 1000 ∧
    (after (.periodExpiry .a) ((waitingAt 0).withEngine .a fun en => { en with run := .stopping .afterCycle })).engineA.run =
      .stopped := by decide

theorem test_noPeriod : after (.periodExpiry .b) (waitingAt 0) = waitingAt 0 := rfl

theorem witness_period : (waitingAt 0).engineA.timer = some ⟨10, 0⟩ ∧ idle.engineA.timer = none ∧
    ((waitingAt 0).withEngine .a fun en => { en with run := .stopping .afterCycle }).engineA.run = .stopping .afterCycle := by
  decide

/-! ### The field lines -/

theorem witness_attemptEnd : inFlight.engineA.activity = .inTransaction tr ∧ tr.made + 1 < tr.limit ∧
    ({ tr with made := 1 } : Transaction).limit ≤ ({ tr with made := 1 } : Transaction).made + 1 := by decide

/-- That transaction with its attempts made, and the same with another source. -/
def endOf (src : Source) (o : LineOutcome) : State :=
  inFlight.endTransaction .a { tr with source := src, made := 2, statuses := [⟨.a, ⟨1, false, false⟩, 7⟩], readData := [0x1234] }
    o .a

theorem test_transactionEnd : (endOf (.fixed 0 readFive) .garbled).engineA.tallies.failed = 1 ∧
    ((endOf (.fixed 0 readFive) .garbled).pair 0).working = .one ∧
    (endOf (.fixed 0 readFive) .good).engineA.activity = .gap .a ∧
    (endOf (.fixed 0 readFive) .good).engineA.next = 1 ∧
    ((endOf (.fixed 0 readFive) .good).attn 5).state = .escalated := by decide

theorem test_transactionEnd_sources : (endOf (.demand dem) .good).tx =
      some ⟨.notice ⟨.demandResult 9 .a 5 .status .good 2 ⟨1, false, false⟩ [], 0⟩, 0⟩ ∧
    (endOf (.demand dem) .good).notices = [⟨.escalation 5 4 1 .host (some .reply) 1 0, 0⟩] ∧
    ((endOf (.probe 0 readFive) .noReply).pair 0).working = .one ∧
    (endOf .sweep .good).engineA.callPending = false := by decide

theorem test_replyTimeout : (after (.replyTimeout .a) (atPort (.awaiting att false))).portA.waiting = some att ∧
    (after (.replyTimeout .a) (atPort (.awaiting att false))).portA.phase = .turnaround := by decide

theorem test_requestFrameSent :
    (after (.requestFrameSent .a) (atPort (.sending (some att)))).portA.phase = .awaiting att false ∧
    (after (.requestFrameSent .a) (atPort (.sending (some att)))).portA.interval = some ⟨.replyTimeout, 4, 11, 3⟩ ∧
    (after (.abortedCharacterEnd .a) (atPort (.sending none))).portA.phase = .turnaround := by decide

theorem test_turnaroundGapExpiry : (after (.turnaroundGapExpiry .a) (atPort .turnaround)).portA.phase = .idle ∧
    (after (.turnaroundGapExpiry .a)
      ((atPort .turnaround).withPort .a fun x => { x with waiting := some att })).portA.phase = .sending (some att) := by decide

theorem test_characters :
    (after (char 0x5A .high) (atPort (.awaiting att false))).portA.phase = .receiving att [0x5A] ∧
    (after (char 0x11 .high) (atPort (.awaiting att false))).portA.phase = .awaiting att false ∧
    (after (char 17 .high) (atPort (.receiving att [0x5A, 6, 0]))).portA.phase = .discarding att 4 ∧
    (after (char 16 .high) (atPort (.receiving att [0x5A, 6, 0]))).portA.phase = .receiving att [0x5A, 6, 0, 16] ∧
    (after (char 0 .high) (atPort (.discarding att 36))).portA.phase = .discarding att 37 := by decide

/-- A framing error leaves RXD low: no character comes before it has returned high. -/
theorem test_framingError :
    let u := after (char 6 .low) (atPort (.receiving att [0x5A]))
    u.portA.phase = .discarding att 2 ∧ u.portA.rxBreak = true ∧ after (char 0 .high) u = u ∧
      (after (char 0 .high) (after (.lineHigh .a) u)).portA.phase = .discarding att 3 := by
  refine ⟨by decide, by decide, rfl, by decide⟩

/-- A character keeps the parity it began with; one without a LINE_LOW takes the settings as they stand. -/
theorem test_charFormat : (after (.lineLow .a) (atPort (.awaiting att false))).portA.rxChar = some ⟨3, .even, .one⟩ ∧
    (atPort (.awaiting att false)).portA.rxFormat = ⟨3, .even, .one⟩ := by decide

theorem test_discardLimit :
    (after (char 0 .high) (atPort (.discarding att 37))).portA.phase = .turnaround ∧
    (after (.discardLimitReached ⟨.a, .low⟩) (atPort (.discarding att 37))).portA.phase = .turnaround ∧
    (after (.discardLimitReached ⟨.a, .low⟩) (atPort (.discarding att 37))).portA.rxd = .low ∧
    (after (.replyGapExpiry .a) (atPort (.receiving att [0x5A]))).portA.phase = .turnaround := by decide

theorem witness_hears : (atPort (.discarding att 37)).portA.rxBreak = false ∧
    (atPort (.discarding att 37)).portA.rxd = .high := by decide

theorem test_noGap : after (.replyGapExpiry .a) (atPort (.awaiting att false)) = atPort (.awaiting att false) := rfl

theorem test_classification : (Report.ofReply att (0x5A :: replyFive 1)) = ⟨.good, ⟨1, false, false⟩, [0x1234]⟩ ∧
    (Report.ofReply { att with request := { tr.request with address := 7 } } (0x5A :: replyFive 1)).outcome = .wrongStation ∧
    (Report.ofReply att (0x5A :: replyFive 3)).outcome = .garbled ∧
    (Report.ofReply att (0x5A :: replyFive 4)).outcome = .garbled ∧
    (Report.ofReply { att with expected := 2 } (0x5A :: replyFive 0)).outcome = .garbled := by decide

theorem witness_reply : [(0x5A : Byte)] ++ replyFive 9 = 0x5A :: replyFive 9 ∧ replyFive 9 ≠ [] ∧
    ((0x5A :: replyFive 9).getD 3 0).toNat ≤ 16 ∧
    (0x5A :: replyFive 9).length = 6 + 2 * ((0x5A :: replyFive 9).getD 3 0).toNat ∧
    (atPort (.receiving att [0x5A])).portA.phase = .receiving att [0x5A] ∧ (9 : Byte).toNat % 4 ≠ 3 ∧
    (9 : Byte).getLsbD 2 = false ∧ readFive.wordOffset.val + [(0x1234 : Word)].length ≤ 128 := by decide

/-- The reply completed. -/
def delivered : State := after (.replyFrameComplete .a (replyFive 9)) (atPort (.receiving att [0x5A]))

theorem test_delivered : ((delivered.pair 0).half0)[127] = 0x1234 ∧ (delivered.pair 0).working = .one ∧
    (delivered.station 5).last = ⟨1, false, true⟩ ∧ (delivered.attn 5).state = .escalated ∧
    delivered.engineA.activity = .gap .a := by decide

theorem test_lineMonitor : (after (.lineLow .b) idle).portB.monitor = .timing ∧
    (after (.lineHigh .b) (after (.lineLow .b) idle)).portB.monitor = .armed ∧
    (after (.lineMonitorTimerExpiry .b) (after (.lineLow .b) idle)).tx = some ⟨.notice ⟨.lineCall .b .b, 0⟩, 0⟩ ∧
    (after (.lineMonitorTimerExpiry .a) (after (.lineLow .a) (waitingAt 0))).engineA.callPending = true := by decide

theorem witness_lineMonitor : idle.portB.rxd = .high ∧ idle.portB.phase = .idle ∧ idle.portB.monitor = .armed ∧
    (after (.lineLow .b) idle).portB.rxd = .low ∧ (after (.lineLow .b) idle).portB.monitor = .timing ∧
    (atPort (.awaiting att true)).portA.rxBreak = false := by decide

/-! ### The Arbiter, flips and transfers -/

theorem test_takeStatus : ((one.takeStatus 5 .sweep ⟨1, false, false⟩).attn 5) = ⟨.escalated, 4, 1⟩ ∧
    (({ one with mask := 4 } : State).takeStatus 5 .sweep ⟨1, false, false⟩).attn 5 = ⟨.pending, 4, 1⟩ ∧
    (((claimed .pending).takeStatus 5 .sweep ⟨0, false, false⟩).attn 5) = ⟨.clear, 0, 0⟩ ∧
    (((claimed .acking).takeStatus 5 .sweep ⟨0, false, false⟩).attn 5).state = .acking ∧
    (((claimed .acking).takeStatus 5 .acknowledge ⟨2, false, false⟩).attn 5) = ⟨.escalated, 8, 2⟩ := by decide

theorem test_flip : ((idle.flip .a 0 (.slot 3)).pair 0).working = .one ∧
    ((idle.flip .a 0 (.slot 3)).pair 0).hostState = .unread ∧
    (((idle.flip .a 0 (.slot 3)).flip .a 0 (.slot 3)).pair 0).miss = true ∧ ((output.flip .a 3 (.slot 3)).pair 3).miss = true := by
  decide

theorem witness_transfer : ((asking .serving 4 1).descriptor 2).remaining = 1 ∧
    1 ≤ ((asking .serving 4 1).descriptor 2).perTransfer.toNat ∧
    ((asking .serving 4 1).descriptor 2).wordOffset.val + ((asking .serving 4 1).descriptor 2).perTransfer.toNat ≤ 128 ∧
    ((asking .serving 4 1).attn 5).state = .serving := by decide

theorem test_transfer :
    (((asking .serving 4 1).completeTransfer .a 5 2).attn 5).state = .escalated ∧
    (((asking .serving 4 2).completeTransfer .a 5 2).descriptor 2).remaining = 1 ∧
    (((asking .serving 4 2).setDescriptor 2
      { Descriptor.reset with remaining := 2, wordOffset := 127, advanceOffset := true }).completeTransfer .a 5 2).descriptor 2 =
      { Descriptor.reset with remaining := 1, wordOffset := 0, advanceOffset := true } := by decide

/-! ### The laws at a state with work in flight -/

/-- Port A sends the attempt of the transaction in flight. -/
def working : State := atPort (.sending (some att))

theorem witness_tablesSound : working.TablesSound ∧ ∃ t, step working = .next t := by
  refine ⟨⟨?_, ?_, ?_, ?_, ?_⟩, _, rfl⟩
  · unfold State.QueuesBounded
    decide
  · unfold State.HealthAgrees
    decide
  · intro p
    have h : working.pair p = .init .capture := Vector.getElem_replicate p.isLt
    rw [h]
    exact .inr rfl
  · have five : (engineOf slotFive 250 (.inTransaction tr)).bankX.InRange := by
      refine ⟨by decide, fun i => ?_⟩
      show (((Vector.replicate 128 Slot.reset).set 0 slotFive)[i.val]).InRange
      rw [Vector.getElem_set]
      split
      · exact slotFive_inRange
      · exact slots_inRange i
    have fresh : Bank.reset.InRange := ⟨by decide, slots_inRange⟩
    have stations : ∀ i : Fin 64, 1 ≤ (working.station i).config.address.toNat ∧
        (working.station i).config.address.toNat ≤ 127 := by decide +kernel
    exact ⟨⟨by decide, by decide⟩, ⟨by decide, by decide⟩, five, fresh, fresh, fresh, stations, descriptors_inRange,
      by decide +kernel⟩
  · intro h
    cases h

theorem witness_serviceSound : serving.ServiceSound ∧ ∃ t, step serving = .next t := by
  refine ⟨⟨⟨by decide, ?_, by decide, by decide⟩, ?_⟩, _, rfl⟩
  · decide
  · unfold State.RecordsSound
    decide

theorem witness_unitsSound : working.TablesSound ∧ working.UnitsSound ∧ ∃ t, step working = .next t := by
  have image : working.ImageSound := by
    show working.imageState = .valid ↔ working.region.check.1 = .image
    decide
  refine ⟨witness_tablesSound.1, ⟨⟨by decide, by decide⟩, image, ⟨by decide, by decide, fun f h => ?_⟩, ?_, ?_⟩, _, rfl⟩
  · rcases h with h | h <;> cases h
  all_goals
    exact ⟨by decide, by decide, by decide, by decide⟩

theorem witness_imageSound_saving : (storing (.erasing (.save image) 0)).ImageSound ∧
    (storing (.programming image 1 false false)).ImageSound :=
  ⟨⟨rfl, by decide, fun m h => by injection h with h; exact h ▸ image_inRange _ (.inl rfl)⟩,
    ⟨rfl, by decide, image_inRange _ (.inl rfl), by decide, by decide, fun p h1 h2 => by omega⟩⟩

theorem witness_attentionSound : working.ServiceSound ∧ working.AttentionSound ∧ ∃ t, step working = .next t := by
  refine ⟨⟨⟨by decide, by decide, by decide, by decide⟩, ?_⟩, ⟨?_, ?_, trivial, ⟨?_, ?_⟩, ?_, ?_⟩, _, rfl⟩
  · unfold State.RecordsSound
    decide
  · unfold State.IdleUnlessServable
    decide
  · exact ⟨⟨by decide, by decide, by decide, by decide⟩, by decide, by decide, by decide, trivial⟩
  · have marks : ∀ i : Fin 64, (working.station i).inTransaction = if i = 5 then some .a else none := by decide
    intro i e h
    rw [marks i] at h
    split at h
    · rename_i hi
      injection h with h
      subst h
      exact ⟨tr, rfl, hi.symm⟩
    · cases h
  · intro d e h
    rw [show working.claim d = none from Vector.getElem_replicate d.isLt] at h
    cases h
  · intro h
    cases h
  · intro _
    exact ⟨rfl, rfl⟩

end Sys2Proof.Tests
end

section
/-!
The laws that every step keeps (O56, O58): the tables' law read record by record, the plant (store and ports) and the link, and
a relation `Keeps` between the states before and behind an operation, which every operation of the part meets.
-/

namespace Sys2Proof.Machine

/-! ### The tables' law, record by record -/

/-- What the tables' law asks of one engine (R36, R37, R74). -/
structure EngineState.Sound (en : EngineState) : Prop where
  bankX : en.bankX.InRange
  bankY : en.bankY.InRange
  demands : en.demands.length ≤ Config.demandEntries

/-- What the tables' law asks of one station record (R19, R28). -/
structure Station.Sound (st : Station) : Prop where
  config : st.config.InRange
  health : st.health = healthOf st.failCount

/-- The tables' law with one clause for each kind of record, read through the accessors. -/
structure State.TablesFit (s : State) : Prop where
  notices : s.notices.length ≤ Config.noticeEntries
  engine : ∀ e, (s.engine e).Sound
  port : ∀ p, (s.port p).settings.InRange
  station : ∀ i, (s.station i).Sound
  descriptor : ∀ d, (s.descriptor d).InRange
  pair : ∀ p, (s.pair p).StateFits
  noClash : anyClash s.arrangement (fun i => (s.station i).config) = false
  stopsB : s.arrangement = .paired → (s.engine .b).run = .stopped

theorem State.tablesSound_iff (s : State) : s.TablesSound ↔ s.TablesFit := by
  constructor
  · rintro ⟨⟨hn, hda, hdb⟩, hh, hp, hc, hb⟩
    exact {
      notices := hn
      engine := fun | .a => ⟨hc.bankAX, hc.bankAY, hda⟩ | .b => ⟨hc.bankBX, hc.bankBY, hdb⟩
      port := fun | .a => hc.portA | .b => hc.portB
      station := fun i => ⟨hc.stations i, hh i⟩
      descriptor := hc.descriptors
      pair := hp
      noClash := hc.noClash
      stopsB := hb }
  · intro h
    have hc : s.ConfigFits := {
      portA := h.port .a, portB := h.port .b
      bankAX := (h.engine .a).bankX, bankAY := (h.engine .a).bankY
      bankBX := (h.engine .b).bankX, bankBY := (h.engine .b).bankY
      stations := fun i => (h.station i).config
      descriptors := h.descriptor
      noClash := h.noClash }
    exact ⟨⟨h.notices, (h.engine .a).demands, (h.engine .b).demands⟩, fun i => (h.station i).health, h.pair, hc, h.stopsB⟩

/-! ### The plant: the store with its region, and the ports -/

/-- The law of the region and the image state (R160, R161). -/
def State.StoreSound (s : State) : Prop := s.RegionSound ∧ s.ImageSound

/-- The units' law less the link's. -/
structure State.PlantSound (s : State) : Prop where
  store : s.StoreSound
  port : ∀ p, (s.port p).PhaseFits

theorem State.unitsSound_iff (s : State) : s.UnitsSound ↔ s.PlantSound ∧ s.LinkSound := by
  constructor
  · rintro ⟨hr, hi, hl, ha, hb⟩
    exact ⟨⟨⟨hr, hi⟩, fun | .a => ha | .b => hb⟩, hl⟩
  · rintro ⟨h, hl⟩
    exact ⟨h.store.1, h.store.2, hl, h.port .a, h.port .b⟩

/-- The store's law reads the region, the image state and the controller alone. -/
theorem State.StoreSound.congr {s t : State} (h : s.StoreSound) (hr : t.region = s.region)
    (hi : t.imageState = s.imageState) (hs : t.store = s.store) : t.StoreSound := by
  unfold State.StoreSound State.RegionSound State.ImageSound at *
  rw [hr, hi, hs]
  exact h

/-- The link's law reads the transmitter, the slot, the queue and the request buffers alone. -/
theorem State.LinkSound.congr {s t : State} (h : s.LinkSound) (ht : t.tx = none → s.tx = none)
    (hr : t.replySlot = s.replySlot) (hn : t.notices = s.notices) (hp : t.processing = s.processing) (hh : t.held = s.held) :
    t.LinkSound := by
  unfold State.LinkSound at *
  rw [hr, hn, hp, hh]
  exact ⟨fun e => h.1 (ht e), h.2⟩

/-! ### Keeping the laws -/

/-- What an operation leaves behind in a state whose tables are sound. The buffer of the held request is not touched. -/
structure Kept (s t : State) : Prop where
  held : t.held = s.held
  tables : t.TablesFit
  plant : s.PlantSound → t.PlantSound
  link : s.LinkSound → t.LinkSound

/-- An operation from `s` to `t` keeps the laws of the tables, the plant and the link. -/
def Keeps (s t : State) : Prop := s.TablesFit → Kept s t

/-- `t` agrees with `s` in what the store's and the link's laws read. -/
structure SameUnits (s t : State) : Prop where
  region : t.region = s.region
  imageState : t.imageState = s.imageState
  store : t.store = s.store
  tx : t.tx = none → s.tx = none
  replySlot : t.replySlot = s.replySlot
  notices : t.notices = s.notices
  processing : t.processing = s.processing
  held : t.held = s.held

/-- `t` agrees with `s` in what the tables' law reads, and in the ports. -/
structure SameTables (s t : State) : Prop where
  notices : t.notices = s.notices
  engineA : t.engineA = s.engineA
  engineB : t.engineB = s.engineB
  portA : t.portA = s.portA
  portB : t.portB = s.portB
  stations : t.stations = s.stations
  descriptors : t.descriptors = s.descriptors
  pairs : t.pairs = s.pairs
  arrangement : t.arrangement = s.arrangement

namespace SameTables

variable {s t : State}

theorem engine (h : SameTables s t) (e : Engine) : t.engine e = s.engine e := by
  cases e
  · exact h.engineA
  · exact h.engineB

theorem port (h : SameTables s t) (p : PortId) : t.port p = s.port p := by
  cases p
  · exact h.portA
  · exact h.portB

theorem station (h : SameTables s t) (i : Fin 64) : t.station i = s.station i := by
  rw [State.station, h.stations]; rfl

theorem tablesFit (h : SameTables s t) (hs : s.TablesFit) : t.TablesFit where
  notices := h.notices ▸ hs.notices
  engine e := h.engine e ▸ hs.engine e
  port p := h.port p ▸ hs.port p
  station i := h.station i ▸ hs.station i
  descriptor d := by rw [State.descriptor, h.descriptors]; exact hs.descriptor d
  pair p := by rw [State.pair, h.pairs]; exact hs.pair p
  noClash := by simpa [h.arrangement, h.station] using hs.noClash
  stopsB := by rw [h.arrangement, h.engine]; exact hs.stopsB

end SameTables

theorem State.TablesFit.of_same {s t : State} (h : s.TablesFit)
    (ht : SameTables s t := by exact ⟨rfl, rfl, rfl, rfl, rfl, rfl, rfl, rfl, rfl⟩) : t.TablesFit := ht.tablesFit h

namespace Keeps

theorem refl (s : State) : Keeps s s := fun h => ⟨rfl, h, id, id⟩

theorem trans {s t u : State} (h : Keeps s t) (k : Keeps t u) : Keeps s u := fun hs =>
  have ht := h hs
  have hu := k ht.tables
  ⟨hu.held.trans ht.held, hu.tables, fun hp => hu.plant (ht.plant hp), fun hl => hu.link (ht.link hl)⟩

theorem ite {s : State} {c : Prop} [Decidable c] {t u : State} (h : Keeps s t) (k : Keeps s u) :
    Keeps s (if c then t else u) := by split <;> assumption

theorem foldl {α : Type} (f : State → α → State) (h : ∀ s a, Keeps s (f s a)) (xs : List α) (s : State) :
    Keeps s (xs.foldl f s) := by
  induction xs generalizing s with
  | nil => exact refl s
  | cons x xs ih => exact (h s x).trans (ih (f s x))

/-- An operation beside the store and the link that keeps every table and every port's agreement with its phase. -/
theorem of_same {s t : State} (hu : SameUnits s t) (ht : s.TablesFit → t.TablesFit)
    (hp : ∀ p, (s.port p).PhaseFits → (t.port p).PhaseFits) : Keeps s t := fun hs => {
  held := hu.held
  tables := ht hs
  plant := fun h => ⟨h.store.congr hu.region hu.imageState hu.store, fun p => hp p (h.port p)⟩
  link := fun h => h.congr hu.tx hu.replySlot hu.notices hu.processing hu.held }

/-- An update of what none of the laws reads. -/
theorem of_quiet {s t : State} (hu : SameUnits s t := by exact ⟨rfl, rfl, rfl, id, rfl, rfl, rfl, rfl⟩)
    (ht : SameTables s t := by exact ⟨rfl, rfl, rfl, rfl, rfl, rfl, rfl, rfl, rfl⟩) : Keeps s t :=
  of_same hu ht.tablesFit fun p hp => ht.port p ▸ hp

/-- An update of the store alone. -/
theorem of_store {s : State} {r : Region} {x : Store} {im : ImageState}
    (h : s.TablesFit → s.StoreSound → ({ s with region := r, store := x, imageState := im } : State).StoreSound) :
    Keeps s { s with region := r, store := x, imageState := im } := fun hs => {
  held := rfl
  tables := hs.of_same
  plant := fun hp => ⟨h hs hp.store, hp.port⟩
  link := fun hl => hl.congr id rfl rfl rfl rfl }

/-! ### The record updates -/

/-- An engine's change keeps the laws when it keeps the engine's banks and queue and, in PAIRED, leaves Engine B STOPPED. -/
theorem withEngine_of {s : State} {e : Engine} {g : EngineState → EngineState}
    (hg : (s.engine e).Sound → (g (s.engine e)).Sound)
    (hr : s.arrangement = .paired → e = .b → (s.engine e).run = .stopped → (g (s.engine e)).run = .stopped) :
    Keeps s (s.withEngine e g) := by
  refine of_same (by constructor <;> simp) (fun h => ?_) (fun p hp => by simpa using hp)
  have he : ∀ x, ((s.withEngine e g).engine x).Sound := fun x => by
    by_cases hx : x = e
    · subst hx; simpa using hg (h.engine x)
    · rw [State.withEngine_engine_other s g hx]; exact h.engine x
  have hb : s.arrangement = .paired → ((s.withEngine e g).engine .b).run = .stopped := fun ha => by
    by_cases hx : Side.b = e
    · subst hx; simpa using hr ha rfl (h.stopsB ha)
    · rw [State.withEngine_engine_other s g hx]; exact h.stopsB ha
  exact {
    notices := by simpa using h.notices
    engine := he
    port := by simpa using h.port
    station := by simpa using h.station
    descriptor := by simpa using h.descriptor
    pair := by simpa using h.pair
    noClash := by simpa using h.noClash
    stopsB := by simpa using hb }

/-- A change of an engine that starts no stopped engine. -/
theorem withEngine {s : State} {e : Engine} {g : EngineState → EngineState}
    (hg : (s.engine e).Sound → (g (s.engine e)).Sound)
    (hr : (s.engine e).run = .stopped → (g (s.engine e)).run = .stopped) : Keeps s (s.withEngine e g) :=
  withEngine_of hg fun _ _ => hr

/-- A change of an engine that may start it: Engine B outside PAIRED alone (R45). -/
theorem withEngine_allowed {s : State} {e : Engine} {g : EngineState → EngineState}
    (hg : (s.engine e).Sound → (g (s.engine e)).Sound) (ha : e = .b → s.arrangement ≠ .paired) :
    Keeps s (s.withEngine e g) :=
  withEngine_of hg fun hp he => absurd hp (ha he)

/-- A change of an engine that leaves its banks, its queue and its run state alone. -/
theorem withEngine_quiet {s : State} {e : Engine} {g : EngineState → EngineState}
    (hx : (g (s.engine e)).bankX = (s.engine e).bankX) (hy : (g (s.engine e)).bankY = (s.engine e).bankY)
    (hd : (g (s.engine e)).demands = (s.engine e).demands) (hr : (g (s.engine e)).run = (s.engine e).run) :
    Keeps s (s.withEngine e g) :=
  withEngine (fun h => ⟨hx ▸ h.bankX, hy ▸ h.bankY, hd ▸ h.demands⟩) (fun h => hr.trans h)

theorem withPort {s : State} {p : PortId} {g : Port → Port}
    (hc : (s.port p).settings.InRange → (g (s.port p)).settings.InRange)
    (hg : (s.port p).PhaseFits → (g (s.port p)).PhaseFits) : Keeps s (s.withPort p g) := by
  refine of_same (by constructor <;> simp) (fun h => ?_) (fun x hx => ?_)
  · exact {
      notices := by simpa using h.notices
      engine := by simpa using h.engine
      port := fun x => by
        by_cases hx : x = p
        · subst hx; simpa using hc (h.port x)
        · rw [State.withPort_port_other s g hx]; exact h.port x
      station := by simpa using h.station
      descriptor := by simpa using h.descriptor
      pair := by simpa using h.pair
      noClash := by simpa using h.noClash
      stopsB := by simpa using h.stopsB }
  · by_cases he : x = p
    · subst he; simpa using hg hx
    · rw [State.withPort_port_other s g he]; exact hx

/-- A change of a station record that leaves its configuration alone. -/
theorem withStation {s : State} {i : Fin 64} {g : Station → Station}
    (hc : (g (s.station i)).config = (s.station i).config)
    (hh : (s.station i).health = healthOf (s.station i).failCount →
      (g (s.station i)).health = healthOf (g (s.station i)).failCount) : Keeps s (s.withStation i g) := by
  refine of_same (by constructor <;> simp) (fun h => ?_) (fun x hx => by simpa using hx)
  have hst : ∀ j, ((s.withStation i g).station j).config = (s.station j).config ∧
      ((s.withStation i g).station j).Sound := fun j => by
    by_cases hj : j = i
    · subst hj
      have hs := h.station j
      rw [State.withStation_station]
      exact ⟨hc, hc ▸ hs.config, hh hs.health⟩
    · rw [State.withStation_station_other s g hj]
      exact ⟨rfl, h.station j⟩
  exact {
    notices := by simpa using h.notices
    engine := by simpa using h.engine
    port := by simpa using h.port
    station := fun j => (hst j).2
    descriptor := by simpa using h.descriptor
    pair := by simpa using h.pair
    noClash := by simpa [hst] using h.noClash
    stopsB := by simpa using h.stopsB }

theorem setAttn (s : State) (i : Fin 64) (r : Attention) : Keeps s (s.setAttn i r) :=
  of_quiet

theorem setClaim (s : State) (d : Fin 32) (c : Option Engine) : Keeps s (s.setClaim d c) :=
  of_quiet

theorem setDescriptor {s : State} {d : Fin 32} {r : Descriptor} (hr : (s.descriptor d).InRange → r.InRange) :
    Keeps s (s.setDescriptor d r) :=
  of_same (by constructor <;> simp) (fun h => ⟨by simpa using h.notices, by simpa using h.engine, by simpa using h.port,
    by simpa using h.station, fun x => by
      by_cases hx : x = d
      · subst hx; simpa using hr (h.descriptor x)
      · rw [State.setDescriptor_descriptor_other s r hx]; exact h.descriptor x,
    by simpa using h.pair, by simpa using h.noClash, by simpa using h.stopsB⟩) (fun p hp => by simpa using hp)

theorem setPair {s : State} {p : Fin 16} {r : Pair} (hr : (s.pair p).StateFits → r.StateFits) : Keeps s (s.setPair p r) :=
  of_same (by constructor <;> simp) (fun h => ⟨by simpa using h.notices, by simpa using h.engine, by simpa using h.port,
    by simpa using h.station, by simpa using h.descriptor, fun x => by
      by_cases hx : x = p
      · subst hx; simpa using hr (h.pair x)
      · rw [State.setPair_pair_other s r hx]; exact h.pair x,
    by simpa using h.noClash, by simpa using h.stopsB⟩) (fun p hp => by simpa using hp)

end Keeps

/-! ### Notices and the link -/

/-- A transmitter that has made its choice is free only when nothing waits (R151). -/
theorem State.transmit_free (s : State) (h : s.transmit.tx = none) : s.transmit.replySlot = none ∧ s.transmit.notices = [] := by
  cases ht : s.tx <;> cases hr : s.replySlot <;> cases hn : s.notices <;> simp [State.transmit, ht, hr, hn] at h ⊢

/-- A transmitter's choice leaves an empty reply slot empty. -/
theorem State.transmit_replySlot (s : State) (h : s.replySlot = none) : s.transmit.replySlot = none := by
  cases ht : s.tx <;> cases hn : s.notices <;> simp [State.transmit, ht, h, hn]

/-- A transmitter that has made its choice meets the link's law, when the buffers do. -/
theorem State.linkSound_transmit {s : State} (hp : s.processing = none → s.replySlot = none ∧ s.held = none)
    (hb : ∀ f, s.processing = some f ∨ s.held = some f → f.payload.length ≤ Config.maxPayload) : s.transmit.LinkSound :=
  ⟨s.transmit_free, fun h => ⟨s.transmit_replySlot (hp (by simpa using h)).1, by simpa using (hp (by simpa using h)).2⟩,
    fun f hf => hb f (by simpa using hf)⟩

@[simp] theorem State.queueNotice_processing (n : Notice) (s : State) : (s.queueNotice n).processing = s.processing := by
  unfold State.queueNotice; split <;> rfl
@[simp] theorem State.queueNotice_held (n : Notice) (s : State) : (s.queueNotice n).held = s.held := by
  unfold State.queueNotice; split <;> rfl
@[simp] theorem State.queueNotice_replySlot (n : Notice) (s : State) : (s.queueNotice n).replySlot = s.replySlot := by
  unfold State.queueNotice; split <;> rfl

/-- A raised notice keeps the link's law. -/
theorem State.linkSound_raise {s : State} (n : Notice) (h : s.LinkSound) : (s.raise n).LinkSound := by
  obtain ⟨_, hp, hb⟩ := id h
  unfold State.raise
  split
  · exact State.linkSound_transmit (by simpa using hp) (by simpa using hb)
  · exact h

namespace Keeps

theorem raise (s : State) (n : Notice) : Keeps s (s.raise n) := fun h => {
  held := by simp
  tables := {
    notices := State.raise_notices_le n s h.notices
    engine := by simpa using h.engine
    port := by simpa using h.port
    station := by simpa using h.station
    descriptor := by simpa using h.descriptor
    pair := by simpa using h.pair
    noClash := by simpa using h.noClash
    stopsB := by simpa using h.stopsB }
  plant := fun hp => ⟨hp.store.congr (by simp) (by simp) (by simp), by simpa using hp.port⟩
  link := State.linkSound_raise n }

/-! ### The Arbiter and the Station Table -/

theorem handOver (s : State) (i : Fin 64) (o : Origin) : Keeps s (s.handOver i o) := by
  unfold State.handOver; exact ite (raise _ _) (refl _)

theorem escalationCheck (s : State) (i : Fin 64) : Keeps s (s.escalationCheck i) := by
  unfold State.escalationCheck; exact ite (setAttn _ _ _) (refl _)

theorem takeClass (s : State) (i : Fin 64) (c : Fin 3) : Keeps s (s.takeClass i c) := by
  unfold State.takeClass; exact ite (setAttn _ _ _) ((setAttn _ _ _).trans (escalationCheck _ _))

theorem takeStatus (s : State) (i : Fin 64) (src : Source) (t : Status) : Keeps s (s.takeStatus i src t) := by
  unfold State.takeStatus
  (repeat' split) <;> first | exact takeClass _ _ _ | exact refl _

theorem offlineEffects (s : State) (i : Fin 64) : Keeps s (s.offlineEffects i) := by
  unfold State.offlineEffects; exact ite (refl _) (setAttn _ _ _)

theorem stationNotice (s : State) (i : Fin 64) (why : StationReason) : Keeps s (s.stationNotice i why) := raise _ _

theorem lineChange (s : State) (i : Fin 64) (p : PortId) : Keeps s (s.lineChange i p) := by
  unfold State.lineChange; exact ite (refl _) ((withStation rfl id).trans (stationNotice _ _ _))

theorem faultChange (s : State) (i : Fin 64) (t : Status) (now : Stamp) : Keeps s (s.faultChange i t now) := by
  unfold State.faultChange; exact ite (withStation rfl id) ((withStation rfl id).trans (stationNotice _ _ _))

theorem takeReply (s : State) (i : Fin 64) (src : Source) (r : ReplyStatus) : Keeps s (s.takeReply i src r) :=
  ((lineChange _ _ _).trans (faultChange _ _ _ _)).trans (takeStatus _ _ _ _)

/-- The health update keeps health and fail count in agreement: a reply gives ONLINE with count 0, a failure the health of the
new count (R28). -/
theorem healthUpdate (s : State) (i : Fin 64) (o : LineOutcome) : Keeps s (s.healthUpdate i o) := by
  unfold State.healthUpdate
  have answered := withStation (s := s) (i := i) (g := fun st => { st with failCount := 0, health := .online }) rfl
    (fun _ => rfl)
  have failed := withStation (s := s) (i := i) (g := fun st => { st with
    failCount := bumpFail (s.station i).failCount, health := healthOf (bumpFail (s.station i).failCount) }) rfl (fun _ => rfl)
  exact ite (ite (answered.trans (stationNotice _ _ _)) answered)
    (ite (ite (failed.trans (stationNotice _ _ _)) failed) (refl _))

theorem probeToggle (s : State) (i : Fin 64) (src : Source) (o : LineOutcome) : Keeps s (s.probeToggle i src o) := by
  unfold State.probeToggle
  (repeat' split) <;> first | exact withStation rfl id | exact refl _

theorem stationResults (s : State) (t : Transaction) (o : LineOutcome) : Keeps s (s.stationResults t o) := by
  unfold State.stationResults
  dsimp only
  refine trans ?_ (withStation rfl id)
  refine trans ?_ (probeToggle _ _ _ _)
  refine trans ?_ (ite (offlineEffects _ _) (refl _))
  refine trans ?_ (healthUpdate _ _ _)
  exact foldl _ (fun s r => takeReply s t.subject t.source r) t.statuses s

theorem endAction (s : State) (i : Fin 64) (x : EndAction) : Keeps s (s.endAction i x) := setAttn _ _ _

/-! ### Pairs and descriptors -/

end Keeps

@[simp] theorem Pair.setHalf_direction (p : Pair) (h : Half) (v : Vector Word 128) :
    (p.setHalf h v).direction = p.direction := by cases h <;> rfl
@[simp] theorem Pair.setHalf_hostState (p : Pair) (h : Half) (v : Vector Word 128) :
    (p.setHalf h v).hostState = p.hostState := by cases h <;> rfl

/-- The fit reads direction and host half state alone. -/
theorem Pair.StateFits.congr {p q : Pair} (h : p.StateFits) (hd : q.direction = p.direction)
    (hs : q.hostState = p.hostState) : q.StateFits := by
  unfold Pair.StateFits at *
  rwa [hd, hs]

theorem Pair.stateFits_setHalf {p : Pair} (hf : p.StateFits) (h : Half) (v : Vector Word 128) : (p.setHalf h v).StateFits :=
  hf.congr (by simp) (by simp)

/-- An exchange hands the host its half in the first state of the direction (R126, R127). -/
theorem Pair.stateFits_exchange (p : Pair) (now : Stamp) : (p.exchange now).StateFits := by
  unfold Pair.StateFits Pair.exchange
  cases p.direction <;> simp

theorem Pair.stateFits_init (d : Direction) : (Pair.init d).StateFits := by
  cases d <;> simp [Pair.StateFits, Pair.init]

/-- The next transfer's words fit the half (R110, step 4). -/
theorem Descriptor.inRange_advance {r : Descriptor} (h : r.InRange) : r.advance.InRange := by
  obtain ⟨h1, h2, h3⟩ := h
  refine ⟨h1, h2, ?_⟩
  show (if r.advanceOffset then r.nextOffset else r.wordOffset).val + r.perTransfer.toNat ≤ 128
  split
  · unfold Descriptor.nextOffset
    split
    · rename_i hn; exact hn.1
    · simp only [Fin.val_zero]; omega
  · exact h3

/-! ### Ports: what the operations leave of the settings, and an abort -/

@[simp] theorem Port.take_settings (p : Port) (a : Attempt) : (p.take a).settings = p.settings := by
  unfold Port.take; split <;> rfl

/-- A port whose waiting attempt is withdrawn when an engine handed it (R49). -/
def Port.withdraw (e : Engine) (p : Port) : Port := { p with waiting := p.waiting.filter fun a => decide (a.engine ≠ e) }

/-- What an abort does to the attempt that a port carries, by its phase (R15). -/
def Port.abortCarried (e : Engine) (p : Port) : Port :=
  match p.phase with
  | .sending (some a) =>
    if a.engine = e then { p with phase := .sending none, shifter := p.shifter.map Shifter.cut } else p
  | .awaiting a _ => if a.engine = e then p.turn else p
  | .receiving a _ => if a.engine = e then p.turn else p
  | .discarding a _ => if a.engine = e then p.turn else p
  | .sending none => p
  | .turnaround => p
  | .idle => p

/-- An abort withdraws the waiting attempt and then ends the one that the port carries. -/
theorem Port.abort_eq (e : Engine) (p : Port) : p.abort e = (p.withdraw e).abortCarried e := by
  obtain ⟨_, _, waiting, _, _, _, _, _, _⟩ := p
  cases waiting with
  | none => rfl
  | some a =>
    by_cases h : a.engine = e
    · simp only [Port.abort, Port.withdraw, Option.filter, h, if_true, ne_eq, not_true_eq_false, decide_false, Bool.false_eq_true,
        if_false]
      rfl
    · simp only [Port.abort, Port.withdraw, Option.filter, h, if_false, ne_eq, not_false_eq_true, decide_true, if_true]
      rfl

/-- The port that an abort leaves is as it was, finishes its character, or turns. -/
theorem Port.abortCarried_cases (e : Engine) (p : Port) :
    p.abortCarried e = p ∨
    (∃ a, p.phase = .sending (some a) ∧
      p.abortCarried e = { p with phase := .sending none, shifter := p.shifter.map Shifter.cut }) ∨
    (p.receiving = true ∧ p.abortCarried e = p.turn) := by
  unfold Port.abortCarried Port.receiving
  cases p.phase with
  | idle => exact .inl rfl
  | turnaround => exact .inl rfl
  | sending x =>
    cases x with
    | none => exact .inl rfl
    | some a =>
      by_cases ha : a.engine = e
      · exact .inr (.inl ⟨a, rfl, if_pos ha⟩)
      · exact .inl (if_neg ha)
  | awaiting a x =>
    by_cases ha : a.engine = e
    · exact .inr (.inr ⟨rfl, if_pos ha⟩)
    · exact .inl (if_neg ha)
  | receiving a x =>
    by_cases ha : a.engine = e
    · exact .inr (.inr ⟨rfl, if_pos ha⟩)
    · exact .inl (if_neg ha)
  | discarding a x =>
    by_cases ha : a.engine = e
    · exact .inr (.inr ⟨rfl, if_pos ha⟩)
    · exact .inl (if_neg ha)

@[simp] theorem Port.abort_settings (e : Engine) (p : Port) : (p.abort e).settings = p.settings := by
  rw [Port.abort_eq]
  obtain h | ⟨a, _, h⟩ | ⟨_, h⟩ := (p.withdraw e).abortCarried_cases e <;> (rw [h]; rfl)

theorem Port.phaseFits_abort (e : Engine) {p : Port} (h : p.PhaseFits) : (p.abort e).PhaseFits := by
  have hw : (p.withdraw e).PhaseFits := h
  rw [Port.abort_eq]
  generalize p.withdraw e = q at hw
  obtain hq | ⟨a, hp, hq⟩ | ⟨hp, hq⟩ := q.abortCarried_cases e <;> rw [hq]
  · exact hw
  · have hs := hw.suspended (by simp [hp])
    obtain ⟨hc, hb⟩ := hw.quiet (by simp [Port.receiving, hp])
    have hx := hw.2.1
    simp only [Port.de, hp] at hx
    exact ⟨by simp [hs], by simpa [Port.de] using hx, by simp [hc], by simp [hb]⟩
  · exact Port.phaseFits_turn hw fun hi => by simp [Port.receiving, hi] at hp

namespace Keeps

theorem captureWords (s : State) (p : Fin 16) (n : Nat) (ws : List Word) : Keeps s (s.captureWords p n ws) :=
  setPair fun h => (Pair.stateFits_setHalf h (s.pair p).working _).congr rfl rfl

theorem flip (s : State) (e : Engine) (p : Fin 16) (c : FlipCause) : Keeps s (s.flip e p c) := by
  unfold State.flip
  exact ite ((setPair fun _ => Pair.stateFits_exchange _ _).trans (raise _ _)) (setPair fun h => h.congr rfl rfl)


/-! ### Transactions -/

/-- A waiting attempt handed to a port leaves its settings. -/
theorem handAttempt (s : State) (e : Engine) (t : Transaction) (l : Line) : Keeps s (s.handAttempt e t l) :=
  (withEngine_quiet rfl rfl rfl rfl).trans
    (withPort (by simp only [Port.take_settings]; exact id) (Port.phaseFits_take _))

theorem claimFor (s : State) (e : Engine) (src : Source) : Keeps s (s.claimFor e src) := by
  unfold State.claimFor; split <;> first | exact setClaim _ _ _ | exact refl _

theorem issue (s : State) (e : Engine) (t : Transaction) : Keeps s (s.issue e t) := by
  unfold State.issue
  exact (((withStation rfl id).trans (claimFor _ _ _)).trans (withEngine_quiet rfl rfl rfl rfl)).trans (handAttempt _ _ _ _)

theorem endSweep (s : State) (e : Engine) : Keeps s (s.endSweep e) := withEngine_quiet rfl rfl rfl rfl

theorem deliverWords (s : State) (t : Transaction) (o : LineOutcome) : Keeps s (s.deliverWords t o) := by
  unfold State.deliverWords
  (repeat' split) <;> first | exact captureWords _ _ _ _ | exact refl _

theorem demandNotice (s : State) (e : Engine) (q : Demand) (o : LineOutcome) (n : Nat) (ws : List Word) :
    Keeps s (s.demandNotice e q o n ws) := raise _ _

theorem completeTransfer (s : State) (e : Engine) (i : Fin 64) (d : Fin 32) : Keeps s (s.completeTransfer e i d) := by
  unfold State.completeTransfer
  have h1 : Keeps s (s.setDescriptor d (s.descriptor d).advance) := setDescriptor Descriptor.inRange_advance
  have h2 := h1.trans (ite (c := (s.descriptor d).wraps = true) (flip _ e (s.descriptor d).pair (.descriptorWrap d)) (refl _))
  exact ite ((h2.trans (ite (endAction _ _ _) (refl _))).trans (ite (flip _ _ _ _) (refl _))) h2

theorem sweepStepEnd (s : State) (e : Engine) (t : Transaction) : Keeps s (s.sweepStepEnd e t) := by
  unfold State.sweepStepEnd; exact ite (endSweep _ _) (ite (endSweep _ _) (refl _))

theorem sourceCompletion (s : State) (e : Engine) (t : Transaction) (o : LineOutcome) :
    Keeps s (s.sourceCompletion e t o) := by
  unfold State.sourceCompletion
  split
  · exact (ite (completeTransfer _ _ _ _) (refl _)).trans (setClaim _ _ _)
  · exact sweepStepEnd _ _ _
  · exact demandNotice _ _ _ _ _ _
  · exact refl _
  · exact refl _
  · exact refl _

theorem slotFlip (s : State) (e : Engine) (t : Transaction) : Keeps s (s.slotFlip e t) := by
  unfold State.slotFlip
  (repeat' split) <;> first | exact flip _ _ _ _ | exact refl _

theorem tallyFailed (s : State) (e : Engine) (o : LineOutcome) : Keeps s (s.tallyFailed e o) := by
  unfold State.tallyFailed; exact ite (withEngine_quiet rfl rfl rfl rfl) (refl _)

theorem handOverResults (s : State) (t : Transaction) (b : AttnState) : Keeps s (s.handOverResults t b) := by
  unfold State.handOverResults; exact ite (handOver _ _ _) (refl _)

/-- An engine that halts is STOPPED, with its banks and its queue as they were. -/
theorem halt (s : State) (e : Engine) : Keeps s (s.withEngine e EngineState.halt) :=
  withEngine (fun h => ⟨h.bankX, h.bankY, h.demands⟩) (fun _ => rfl)

theorem discardDemands (s : State) (e : Engine) : Keeps s (s.discardDemands e) := by
  unfold State.discardDemands
  have emptied : Keeps s (s.withEngine e fun en => { en with demands := [] }) :=
    withEngine (fun h => ⟨h.bankX, h.bankY, Nat.zero_le _⟩) id
  exact emptied.trans (foldl _ (fun s q => demandNotice s e q _ _ _) _ _)

theorem stopEngine (s : State) (e : Engine) (m : StopMode) : Keeps s (s.stopEngine e m) := by
  unfold State.stopEngine
  exact ((halt _ _).trans (ite (discardDemands _ _) (refl _))).trans (raise _ _)

theorem leaveTransaction (s : State) (e : Engine) (p : PortId) : Keeps s (s.leaveTransaction e p) := by
  unfold State.leaveTransaction
  have left : Keeps s (s.withEngine e fun en => { en.leaveSlot with activity := .gap p }) :=
    withEngine_quiet rfl rfl rfl rfl
  refine left.trans ?_
  dsimp only
  (repeat' split) <;> first | exact stopEngine _ _ _ | exact refl _

theorem endTransaction (s : State) (e : Engine) (t : Transaction) (o : LineOutcome) (p : PortId) :
    Keeps s (s.endTransaction e t o p) := by
  unfold State.endTransaction
  refine (deliverWords s t o).trans ((stationResults _ t o).trans ((sourceCompletion _ e t o).trans ?_))
  exact (slotFlip _ e t).trans ((tallyFailed _ e o).trans ((handOverResults _ t _).trans (leaveTransaction _ e p)))

theorem takeReport (s : State) (e : Engine) (p : PortId) (r : Report) : Keeps s (s.takeReport e p r) := by
  unfold State.takeReport
  split
  · exact ite (endTransaction _ _ _ _ _) (handAttempt _ _ _ _)
  all_goals exact refl _

/-- An attempt ends at a port that is not IDLE: its gap begins (R14). -/
theorem endAttempt {s : State} {p : PortId} (a : Attempt) (r : Report) (hp : (s.port p).phase ≠ .idle) :
    Keeps s (s.endAttempt p a r) :=
  (withPort id fun h => Port.phaseFits_turn h hp).trans (takeReport _ _ _ _)

theorem abortCompletion (s : State) (e : Engine) (t : Transaction) : Keeps s (s.abortCompletion e t) := by
  unfold State.abortCompletion
  split <;> first | exact setClaim _ _ _ | exact demandNotice _ _ _ _ _ _ | exact refl _

theorem abortTransaction (s : State) (e : Engine) (t : Transaction) : Keeps s (s.abortTransaction e t) := by
  unfold State.abortTransaction
  have aborted : ∀ (u : State) (p : PortId), Keeps u (u.withPort p (Port.abort e)) := fun u p =>
    withPort (by simp only [Port.abort_settings]; exact id) (Port.phaseFits_abort e)
  dsimp only
  refine trans ?_ (withEngine_quiet rfl rfl rfl rfl)
  refine trans ?_ (handOverResults _ _ _)
  refine trans ?_ (abortCompletion _ _ _)
  refine trans ?_ (stationResults _ _ _)
  exact (aborted s .a).trans (aborted _ .b)

theorem abortEngine (s : State) (e : Engine) : Keeps s (s.abortEngine e) := by
  unfold State.abortEngine
  refine trans ?_ (stopEngine _ _ _)
  split <;> first | exact abortTransaction _ _ _ | exact refl _

/-! ### Grants -/

theorem grantAcknowledge (s : State) (e : Engine) (i : Fin 64) : Keeps s (s.grantAcknowledge e i) := issue _ _ _

theorem grantDescriptor_again {s t : State} {e : Engine} {i : Fin 64} (h : s.grantDescriptor e i = .again t) :
    Keeps s t := by
  unfold State.grantDescriptor at h
  dsimp only at h
  split at h
  · injection h with h; subst h
    exact ite ((endAction _ _ _).trans (handOver _ _ _)) (endAction _ _ _)
  · split at h
    · injection h with h; subst h; exact refl _
    · cases h

theorem grantDescriptor_issued {s t : State} {e : Engine} {i : Fin 64} (h : s.grantDescriptor e i = .issued t) :
    Keeps s t := by
  unfold State.grantDescriptor at h
  dsimp only at h
  split at h
  · cases h
  · split at h
    · cases h
    · injection h with h; subst h; exact (setAttn _ _ _).trans (issue _ _ _)

/-- A run of demands that fits the queue is served: what is left of it fits too. -/
theorem serveDemands (e : Engine) (qs : List Demand) (s : State) (hq : qs.length ≤ Config.demandEntries) :
    Keeps s (s.serveDemands e qs).1 := by
  induction qs generalizing s with
  | nil => exact refl s
  | cons q rest ih =>
    have hrest : rest.length ≤ Config.demandEntries := Nat.le_of_succ_le hq
    have popped : Keeps s (s.withEngine e fun en => { en with demands := rest }) :=
      withEngine (fun h => ⟨h.bankX, h.bankY, hrest⟩) id
    unfold State.serveDemands
    dsimp only
    split
    · exact popped.trans (issue _ _ _)
    · exact (popped.trans (demandNotice _ e q _ _ _)).trans (ih _ hrest)

theorem demandStep (s : State) (e : Engine) : Keeps s (s.demandStep e).1 := by
  unfold State.demandStep; split
  · exact fun h => serveDemands e _ s (h.engine e).demands h
  · exact refl _

theorem grantSweep (s : State) (e : Engine) (i : Fin 64) : Keeps s (s.grantSweep e i) := by
  unfold State.grantSweep; exact (withEngine_quiet rfl rfl rfl rfl).trans (issue _ _ _)

theorem sweepStep (s : State) (e : Engine) (xs : List (Fin 64)) : Keeps s (s.sweepStep e xs).1 := by
  unfold State.sweepStep
  split
  · split
    · exact grantSweep _ _ _
    · exact endSweep _ _
  · exact refl _

/-- A chosen station's look, and the order taken again behind it. -/
theorem grantFrom (n : Nat) (e : Engine) (xs : List (Fin 64)) (s : State) : Keeps s (State.grantFrom n e xs s).1 := by
  induction n generalizing xs s with
  | zero => exact refl s
  | succ n ih =>
    unfold State.grantFrom
    split
    · split
      · rename_i h; exact (grantDescriptor_again h).trans (ih _ _)
      · rename_i h; exact grantDescriptor_issued h
    · split
      · exact grantAcknowledge _ _ _
      · split
        · split
          · rename_i h; exact (grantDescriptor_again h).trans (ih _ _)
          · rename_i h; exact grantDescriptor_issued h
        · have hd := demandStep s e
          split
          · rename_i h; rw [h] at hd; exact hd
          · rename_i s' h
            rw [h] at hd
            refine hd.trans ?_
            split
            · split
              · rename_i h; exact (grantDescriptor_again h).trans (ih _ _)
              · rename_i h; exact grantDescriptor_issued h
            · exact sweepStep _ _ _

theorem grant (s : State) (e : Engine) : Keeps s (s.grant e).1 := grantFrom _ _ _ _

/-! ### Slots and cycles -/

theorem tally (s : State) (e : Engine) (f : Tallies → Tallies) : Keeps s (s.tally e f) := withEngine_quiet rfl rfl rfl rfl

theorem nextSlot (s : State) (e : Engine) : Keeps s (s.nextSlot e) := withEngine_quiet rfl rfl rfl rfl

theorem setActivity (s : State) (e : Engine) (a : Activity) : Keeps s (s.setActivity e a) := withEngine_quiet rfl rfl rfl rfl

theorem startSlot (s : State) (e : Engine) (n : Fin 128) (sl : Slot) : Keeps s (s.startSlot e n sl).1 := by
  unfold State.startSlot
  split
  · split
    · exact tally _ _ _
    · split <;> exact (tally _ _ _).trans (issue _ _ _)
  · have hg := grant s e
    split
    · rename_i h; rw [h] at hg; exact hg.trans (tally _ _ _)
    · rename_i h; rw [h] at hg; exact hg.trans (tally _ _ _)

theorem takeFrom (n : Nat) (e : Engine) (s : State) : Keeps s (State.takeFrom n e s) := by
  induction n generalizing s with
  | zero => exact refl s
  | succ n ih =>
    unfold State.takeFrom
    dsimp only
    split
    · rename_i hlt
      split
      · split
        · exact ((tally s e _).trans (nextSlot _ e)).trans (ih _)
        · split
          · exact setActivity _ _ _
          · split
            · exact ((tally s e _).trans (nextSlot _ e)).trans (ih _)
            · split
              · exact setActivity _ _ _
              · have hs := startSlot s e ⟨(s.engine e).next, hlt⟩ (s.engine e).activeBank.slots[(s.engine e).next]
                split
                · rename_i h; rw [h] at hs; exact hs
                · rename_i h; rw [h] at hs; exact (hs.trans (nextSlot _ e)).trans (ih _)
      · exact setActivity _ _ _
    · exact setActivity _ _ _

theorem takeSlots (s : State) (e : Engine) : Keeps s (s.takeSlots e) := takeFrom _ _ _

theorem closeCycle (s : State) (e : Engine) : Keeps s (s.closeCycle e) := by
  unfold State.closeCycle
  have closed : Keeps s (s.withEngine e EngineState.closed) := withEngine_quiet rfl rfl rfl rfl
  exact closed.trans (ite (raise _ _) (refl _))

end Keeps

@[simp] theorem EngineState.swapIfArmed_bankX (en : EngineState) : en.swapIfArmed.bankX = en.bankX := by
  unfold EngineState.swapIfArmed; split <;> rfl
@[simp] theorem EngineState.swapIfArmed_bankY (en : EngineState) : en.swapIfArmed.bankY = en.bankY := by
  unfold EngineState.swapIfArmed; split <;> rfl
@[simp] theorem EngineState.swapIfArmed_demands (en : EngineState) : en.swapIfArmed.demands = en.demands := by
  unfold EngineState.swapIfArmed; split <;> rfl
@[simp] theorem EngineState.swapIfArmed_run (en : EngineState) : en.swapIfArmed.run = en.run := by
  unfold EngineState.swapIfArmed; split <;> rfl

namespace Keeps

theorem startCycle (s : State) (e : Engine) : Keeps s (s.startCycle e) := by
  unfold State.startCycle
  have begun : Keeps s (s.withEngine e fun en =>
      ({ en.swapIfArmed with cycle := en.cycle + 1 } : EngineState).openCycle s.time) :=
    withEngine_quiet (EngineState.swapIfArmed_bankX _) (EngineState.swapIfArmed_bankY _)
      (EngineState.swapIfArmed_demands _) (EngineState.swapIfArmed_run _)
  dsimp only
  split <;> first | exact begun.trans (takeSlots _ _) | exact begun

theorem startEngine {s : State} {e : Engine} (ha : e = .b → s.arrangement ≠ .paired) : Keeps s (s.startEngine e) := by
  unfold State.startEngine
  refine trans (withEngine_allowed (fun h => ⟨?_, ?_, ?_⟩) ha) (takeSlots _ _)
  · simpa [EngineState.openCycle] using h.bankX
  · simpa [EngineState.openCycle] using h.bankY
  · simpa [EngineState.openCycle] using h.demands

theorem periodExpires (s : State) (e : Engine) : Keeps s (s.periodExpires e) := by
  unfold State.periodExpires
  split
  · exact (closeCycle _ _).trans (startCycle _ _)
  · exact (closeCycle _ _).trans (startCycle _ _)
  · refine (closeCycle s e).trans ?_
    dsimp only
    split <;> first | exact withEngine_quiet rfl rfl rfl rfl | exact stopEngine _ _ _
  · exact refl _
  · exact refl _

theorem slotStarts (s : State) (e : Engine) : Keeps s (s.slotStarts e) := by
  unfold State.slotStarts
  dsimp only
  split
  · rename_i hlt
    have hs := startSlot s e ⟨(s.engine e).next, hlt⟩ (s.engine e).activeBank.slots[(s.engine e).next]
    split
    · rename_i h; rw [h] at hs; exact hs
    · rename_i h; rw [h] at hs; exact (hs.trans (nextSlot _ e)).trans (takeSlots _ e)
  · exact refl _

theorem portReady (s : State) (e : Engine) (p : PortId) : Keeps s (s.portReady e p) := by
  unfold State.portReady; exact ite (takeSlots _ _) (refl _)

/-- A stop mode is set on an engine that is not STOPPED (R46). -/
theorem setStopping {s : State} {e : Engine} (m : StopMode) (hr : (s.engine e).run ≠ .stopped) :
    Keeps s (s.setStopping e m) := by
  unfold State.setStopping
  have set : Keeps s (s.withEngine e fun en => { en with run := .stopping m }) :=
    withEngine (fun h => ⟨h.bankX, h.bankY, h.demands⟩) (fun h => absurd h hr)
  dsimp only
  split
  · exact set
  · exact ite set (set.trans (stopEngine _ _ _))
  · exact set.trans (abortEngine _ _)

end Keeps
end Sys2Proof.Machine
end

section
/-!
The store's law (R160 to R167): which pages an erase or a program touches, what the region's readers give behind it, and that every
step of the controller keeps `State.StoreSound`.
-/

namespace Sys2Proof.Machine

/-! ### Pages -/

/-- What `Region.mark` gives a page. -/
theorem Region.isTorn_mark (r : Region) (first n : Nat) (v : Bool) (p : Nat) (c : List Host.Cell) (k : Nat) :
    Region.isTorn ⟨c, r.mark first n v, k⟩ p = if first ≤ p ∧ p < first + n ∧ p < 64 then v else r.isTorn p := by
  unfold Region.isTorn Region.mark
  by_cases hp : p < 64
  · simp only [Vector.getElem?_ofFn, hp, dite_true, and_true, Option.getD_some]
    split
    · rfl
    · simp [hp]
  · simp [hp]

/-- Two regions agree on a page: torn alike, and with the same bytes when it is not torn. -/
structure Region.SamePage (r r' : Region) (p : Nat) : Prop where
  torn : r'.isTorn p = r.isTorn p
  read : r.isTorn p = false → ∀ a, a / Memory.pageSize = p → r'.read a = r.read a

/-- An update that leaves a page's mark and cells alone. -/
theorem Region.SamePage.of_cells {r r' : Region} {p : Nat} (ht : r'.isTorn p = r.isTorn p)
    (hc : ∀ a, a / Memory.pageSize = p → Memory.read r'.cells a = Memory.read r.cells a) : r.SamePage r' p :=
  ⟨ht, fun h a ha => by simp only [Region.read, ha, ht, h, hc a ha]; rfl⟩

theorem Region.samePage_beginErase {r : Region} {block : Fin 4} {p : Nat} (h : p / 16 ≠ block.val) :
    r.SamePage (r.beginErase block) p := by
  refine .of_cells ?_ fun a _ => by rw [Region.beginErase_cells]
  rw [Region.beginErase, Region.isTorn_mark, if_neg]
  simp only [Memory.blockPages]; omega

theorem Region.samePage_setErased {r : Region} {block : Fin 4} {p : Nat} (h : p / 16 ≠ block.val) :
    r.SamePage (r.setErased block) p := by
  refine .of_cells ?_ fun a ha => ?_
  · rw [Region.setErased, Region.isTorn_mark, if_neg]
    simp only [Memory.blockPages]; omega
  · refine Memory.read_lay_outside _ _ _ _ _ ?_
    simp only [Memory.blockPages, Memory.pageSize] at ha ⊢; omega

theorem Region.samePage_beginProgram {r : Region} {page p : Nat} (h : p ≠ page) : r.SamePage (r.beginProgram page) p := by
  refine .of_cells ?_ fun a _ => by rw [Region.beginProgram_cells]
  rw [Region.beginProgram, Region.isTorn_mark, if_neg]
  omega

theorem Region.samePage_programmed {r : Region} {page p : Nat} {bytes : List Byte} (h : p ≠ page) :
    r.SamePage (r.programmed page bytes) p := by
  refine .of_cells ?_ fun a ha => ?_
  · rw [Region.programmed, Region.isTorn_mark, if_neg]
    omega
  · refine Memory.read_lay_outside _ _ _ _ _ ?_
    simp only [Memory.pageSize] at ha ⊢; omega

/-! ### The marker and the held pages -/

/-- A run of bytes inside a page that two regions agree on. -/
theorem Region.SamePage.bytes {r r' : Region} {p : Nat} (h : r.SamePage r' p) (ht : r.isTorn p = false) {base n : Nat}
    (hb : p * Memory.pageSize ≤ base) (hn : base + n ≤ (p + 1) * Memory.pageSize) : r'.bytes base n = r.bytes base n := by
  unfold Region.bytes
  refine List.map_congr_left fun i hi => h.read ht _ ?_
  have := List.mem_range.mp hi
  simp only [Memory.pageSize] at *; omega

theorem Region.SamePage.holdsMarker {r r' : Region} (h : r.SamePage r' 0) : r'.holdsMarker = r.holdsMarker := by
  unfold Region.holdsMarker
  rw [h.torn]
  cases ht : r.isTorn 0 with
  | true => rfl
  | false => rw [h.bytes ht (by simp) (by simp [Memory.pageSize])]

theorem Region.HoldsPages.congr {r r' : Region} {m : Image} {n : Nat} (h : r.HoldsPages m n)
    (hs : ∀ p, 1 ≤ p → p ≤ n → r.SamePage r' p) : r'.HoldsPages m n := by
  intro p h1 h2
  obtain ⟨ht, hb⟩ := h p h1 h2
  have hp := hs p h1 h2
  exact ⟨hp.torn.trans ht, by rw [hp.bytes ht (Nat.le_refl _) (by rw [Nat.succ_mul]), hb]⟩

/-- A torn marker page does not hold the marker (R160). -/
theorem Region.holdsMarker_of_torn {r : Region} (h : r.isTorn 0 = true) : r.holdsMarker = false := by
  simp [Region.holdsMarker, h]

theorem Region.holdsMarker_beginErase (r : Region) : (r.beginErase 0).holdsMarker = false :=
  Region.holdsMarker_of_torn (by rw [Region.beginErase, Region.isTorn_mark]; simp [Memory.blockPages])

theorem Region.holdsMarker_beginProgram (r : Region) : (r.beginProgram 0).holdsMarker = false :=
  Region.holdsMarker_of_torn (by rw [Region.beginProgram, Region.isTorn_mark]; simp)

/-- The first byte of an erased block 0 is no marker's (R160, 11.6). -/
theorem Region.holdsMarker_setErased (r : Region) : (r.setErased 0).holdsMarker = false := by
  have ht : (r.setErased 0).isTorn 0 = false := by
    rw [Region.setErased, Region.isTorn_mark]; simp [Memory.blockPages]
  have h0 : (r.setErased 0).read 0 = 0xFF := by
    rw [Region.read, show 0 / Memory.pageSize = 0 from rfl, ht]
    exact Memory.read_lay_inside _ _ _ _ 0 (by simp) (by simp [Memory.blockPages, Memory.pageSize])
  have hm : (r.setErased 0).bytes 0 4 ≠ Region.marker := fun h => by
    have := congrArg List.head? h
    simp [Region.bytes, Region.marker, List.range_succ, h0] at this
  simp [Region.holdsMarker, hm]

/-- A region without the marker holds no image that start-up would apply (R168, step 1). -/
theorem Region.check_of_no_marker {r : Region} (h : r.holdsMarker = false) : r.check = (.noImage, none) := by
  simp [Region.check, h]

/-- What a start-up check gives: an image exactly under source IMAGE. -/
theorem Region.check_source (r : Region) : (∃ m, r.check = (.image, some m)) ∨ (∃ x, x ≠ .image ∧ r.check = (x, none)) := by
  unfold Region.check
  split
  · split
    · split
      · exact .inl ⟨_, rfl⟩
      · exact .inr ⟨_, by simp, rfl⟩
    · exact .inr ⟨_, by simp, rfl⟩
  · exact .inr ⟨_, by simp, rfl⟩

/-! ### Programmed pages -/

/-- The bytes of an image page are a page whole. -/
theorem Image.length_pageBytes (m : Image) {p : Nat} (h1 : 1 ≤ p) (h2 : p ≤ 21) :
    (m.pageBytes p).length = Memory.pageSize := by
  rw [Image.pageBytes, if_neg (by omega), List.length_take, List.length_drop, m.length_pages]
  simp only [Memory.pageSize]; omega

theorem Region.isTorn_programmed (r : Region) (p : Nat) (bytes : List Byte) : (r.programmed p bytes).isTorn p = false := by
  rw [Region.programmed, Region.isTorn_mark]
  split
  · rfl
  · have hp : ¬ p < 64 := by omega
    simp [Region.isTorn, hp]

theorem Region.getElem_bytes (r : Region) (base n i : Nat) (h : i < (r.bytes base n).length) :
    (r.bytes base n)[i] = r.read (base + i) := by simp [Region.bytes]

@[simp] theorem Region.length_bytes (r : Region) (base n : Nat) : (r.bytes base n).length = n := by simp [Region.bytes]

/-- What a programmed page reads (R163). -/
theorem Region.read_programmed {r : Region} {p k : Nat} {bytes : List Byte} (hk : k < bytes.length)
    (hn : bytes.length ≤ Memory.pageSize) : (r.programmed p bytes).read (p * Memory.pageSize + k) = bytes[k] := by
  have hpage : (p * Memory.pageSize + k) / Memory.pageSize = p := by simp only [Memory.pageSize] at *; omega
  rw [Region.read, hpage, Region.isTorn_programmed]
  have := Memory.read_lay_inside r.cells (p * Memory.pageSize) Memory.pageSize bytes (p * Memory.pageSize + k) (by omega)
    (by omega)
  rw [Nat.add_sub_cancel_left, List.getD_eq_getElem _ _ hk] at this
  exact this

theorem Region.bytes_programmed {r : Region} {p k n : Nat} {bytes : List Byte} (h : k + n ≤ bytes.length)
    (hn : bytes.length ≤ Memory.pageSize) :
    (r.programmed p bytes).bytes (p * Memory.pageSize + k) n = (bytes.drop k).take n := by
  refine List.ext_getElem (by simp; omega) fun i h1 _ => ?_
  have hi : i < n := by simpa using h1
  rw [Region.getElem_bytes, Nat.add_assoc, Region.read_programmed (by omega) hn]
  simp

/-- The page that has been programmed joins those that hold the image (R163, step 2). -/
theorem Region.HoldsPages.programmed {r : Region} {m : Image} {p : Nat} (h : r.HoldsPages m (p - 1)) (h1 : 1 ≤ p)
    (h2 : p ≤ 21) : (r.programmed p (m.pageBytes p)).HoldsPages m p := by
  have hl := m.length_pageBytes h1 h2
  intro q hq1 hq2
  by_cases hq : q = p
  · subst hq
    refine ⟨Region.isTorn_programmed _ _ _, ?_⟩
    have := Region.bytes_programmed (r := r) (p := q) (k := 0) (n := Memory.pageSize) (by omega) (Nat.le_of_eq hl)
    rw [Nat.add_zero, List.drop_zero, List.take_of_length_le (Nat.le_of_eq hl)] at this
    exact this
  · refine Region.HoldsPages.congr (n := p - 1) h (fun x _ hx => Region.samePage_programmed (by omega)) q hq1 (by omega)

/-- Pages 1 to 21 hold an image's bytes: the image pages are read whole. -/
theorem Region.HoldsPages.imagePages {r : Region} {m : Image} (h : r.HoldsPages m 21) : r.imagePages = m.pages := by
  refine List.ext_getElem (by rw [Region.imagePages, Region.length_bytes, m.length_pages]; rfl) fun i h1 h2 => ?_
  have hi : i < 5376 := m.length_pages ▸ h2
  obtain ⟨p, k, rfl, hk⟩ : ∃ p k, i = p * 256 + k ∧ k < 256 := ⟨i / 256, i % 256, by omega, by omega⟩
  have hp := (h (p + 1) (by omega) (by omega)).2
  have hb : ((m.pageBytes (p + 1))[k]?) = m.pages[p * 256 + k]? := by
    rw [Image.pageBytes, if_neg (by omega)]
    simp [Memory.pageSize, hk, List.getElem?_drop]
  rw [← hp, List.getElem?_eq_getElem (by rw [Region.length_bytes]; exact hk), List.getElem?_eq_getElem h2, Option.some_inj,
    Region.getElem_bytes] at hb
  rw [← hb]
  refine (Region.getElem_bytes r Memory.pageSize _ _ h1).trans (congrArg r.read ?_)
  simp only [Memory.pageSize]; omega

/-- The marker page programmed behind the image's pages makes the region one that start-up finds to hold the image (R163, step 3,
and R168). -/
theorem Region.check_programmed {r : Region} {m : Image} (h : r.HoldsPages m 21) (hm : m.InRange) :
    (r.programmed 0 (m.pageBytes 0)).check = (.image, some m) := by
  have hb : m.pageBytes 0 = Region.marker ++ wordBytes (frameCheck m.pages) := rfl
  have hl : (m.pageBytes 0).length = 6 := rfl
  have h4 := Region.bytes_programmed (r := r) (p := 0) (k := 0) (n := 4) (bytes := m.pageBytes 0) (by omega) (by rw [hl]; decide)
  have h6 := Region.bytes_programmed (r := r) (p := 0) (k := 4) (n := 2) (bytes := m.pageBytes 0) (by omega) (by rw [hl]; decide)
  have hp : (r.programmed 0 (m.pageBytes 0)).imagePages = m.pages :=
    (h.congr fun p h1 _ => Region.samePage_programmed (by omega)).imagePages
  simp only [Nat.zero_mul, Nat.zero_add] at h4 h6
  rw [Region.check, Region.holdsMarker, Region.checkGood, hp, Region.isTorn_programmed, h4, h6, m.ofPages_pages hm, hb]
  simp [Region.marker, wordBytes]

/-! ### The law of the store, by the controller's step -/

/-- The canonical form of the region's cells, inside the region. -/
def Region.Sound (r : Region) : Prop := Memory.wf r.cells = true ∧ ∀ c ∈ r.cells, c.1 < 64 * Memory.pageSize

theorem Region.Sound.beginErase {r : Region} (h : r.Sound) (block : Fin 4) : (r.beginErase block).Sound := by
  unfold Region.Sound; rwa [Region.beginErase_cells]

theorem Region.Sound.beginProgram {r : Region} (h : r.Sound) (page : Nat) : (r.beginProgram page).Sound := by
  unfold Region.Sound; rwa [Region.beginProgram_cells]

theorem Region.Sound.setErased {r : Region} (h : r.Sound) (block : Fin 4) : (r.setErased block).Sound :=
  ⟨r.wf_setErased block h.1, Memory.lay_bound _ _ _ _ _ h.2 (by simp only [Memory.blockPages, Memory.pageSize]; omega)⟩

theorem Region.Sound.programmed {r : Region} (h : r.Sound) {page : Nat} (hp : page ≤ 21) (bytes : List Byte) :
    (r.programmed page bytes).Sound :=
  ⟨r.wf_programmed page bytes h.1, Memory.lay_bound _ _ _ _ _ h.2 (by simp only [Memory.pageSize]; omega)⟩

theorem State.imageSound_idle {s : State} (h : s.store = .idle) :
    s.ImageSound ↔ (s.imageState = .valid ↔ s.region.check.1 = .image) := by rw [State.ImageSound, h]

theorem State.imageSound_erasing {s : State} {op : StoreOp} {b : Fin 4} (h : s.store = .erasing op b) :
    s.ImageSound ↔ s.imageState = .invalid ∧ s.region.holdsMarker = false ∧ ∀ m, op = .save m → m.InRange := by
  rw [State.ImageSound, h]

theorem State.imageSound_programming {s : State} {m : Image} {page : Nat} {x y : Bool}
    (h : s.store = .programming m page x y) : s.ImageSound ↔ s.imageState = .invalid ∧ s.region.holdsMarker = false ∧
      m.InRange ∧ 1 ≤ page ∧ page ≤ 21 ∧ s.region.HoldsPages m (page - 1) := by
  rw [State.ImageSound, h]

theorem State.imageSound_marking {s : State} {m : Image} {x y : Bool} (h : s.store = .marking m x y) :
    s.ImageSound ↔ s.imageState = .invalid ∧ m.InRange ∧ s.region.HoldsPages m 21 ∧
      if y then s.region.check = (.image, some m) else s.region.holdsMarker = false := by
  rw [State.ImageSound, h]

/-- The image state behind an operation that leaves no marker (R161). -/
theorem Region.invalid_iff {r : Region} (h : r.holdsMarker = false) :
    ImageState.invalid = .valid ↔ r.check.1 = .image := by
  rw [Region.check_of_no_marker h]
  simp

/-- The snapshot of a save is in range, since the live configuration is (R162). -/
theorem State.TablesFit.snapshot {s : State} (h : s.TablesFit) (a b : Bool) : (s.snapshot a b).InRange := by
  have hbank : ∀ e, (s.engine e).activeBank.InRange := fun e => by
    unfold EngineState.activeBank EngineState.bank
    split
    · exact (h.engine e).bankX
    · exact (h.engine e).bankY
  exact {
    portA := h.port .a, portB := h.port .b
    headerA := (hbank .a).1, headerB := (hbank .b).1
    stations := fun i => by simpa [State.snapshot, State.station] using (h.station i).config
    slotsA := (hbank .a).2, slotsB := (hbank .b).2
    descriptors := h.descriptor
    noClash := by simpa [State.snapshot, State.station] using h.noClash }

namespace Keeps

/-- A store operation ends: the controller is IDLE, and the image state says what the region then holds (R161). -/
theorem endStore {s : State} {r : Region} (save : Bool) (o : StoreOutcome) {im : ImageState}
    (h : s.StoreSound → r.Sound ∧ (im = .valid ↔ r.check.1 = .image)) :
    Keeps s (({ s with region := r } : State).endStore save o im) := by
  have ended : Keeps s { s with region := r, store := .idle, imageState := im } :=
    of_store fun _ hs => ⟨(h hs).1, (State.imageSound_idle rfl).mpr (h hs).2⟩
  exact ended.trans (raise _ _)

/-- An operation ends with no marker in the region: the image is INVALID. -/
theorem endStore_invalid {s : State} {r : Region} (save : Bool) (o : StoreOutcome)
    (h : s.StoreSound → r.Sound ∧ r.holdsMarker = false) :
    Keeps s (({ s with region := r } : State).endStore save o .invalid) :=
  endStore save o fun hs => ⟨(h hs).1, Region.invalid_iff (h hs).2⟩

/-- An operation begins (R162, R164). -/
theorem beginStore {s : State} {op : StoreOp} (h : s.TablesFit → ∀ m, op = .save m → m.InRange) :
    Keeps s (s.beginStore op) := by
  unfold State.beginStore State.beginErase
  exact of_store fun ht hs => ⟨Region.Sound.beginErase hs.1 0,
    (State.imageSound_erasing rfl).mpr ⟨rfl, Region.holdsMarker_beginErase _, h ht⟩⟩

end Keeps

/-- Behind the erase of a block the region holds no marker, when it held none before it or the block is block 0. -/
theorem Region.holdsMarker_setErased_of {r : Region} (h : r.holdsMarker = false) (block : Fin 4) :
    (r.setErased block).holdsMarker = false := by
  by_cases hb : block = 0
  · subst hb; exact r.holdsMarker_setErased
  · rw [Region.SamePage.holdsMarker (r := r) (Region.samePage_setErased (by omega)), h]

namespace Keeps

/-- BLOCK_ERASE_COMPLETE (R163, R164). -/
theorem blockEraseComplete {s t : State} {erased : Bool} (h : execBlockEraseComplete erased s = .next t) : Keeps s t := by
  unfold execBlockEraseComplete at h
  cases hst : s.store with
  | idle => simp only [hst] at h; injection h with h; exact h ▸ refl s
  | programming m p x y => simp only [hst] at h; injection h with h; exact h ▸ refl s
  | marking m x y => simp only [hst] at h; injection h with h; exact h ▸ refl s
  | erasing op block =>
    simp only [hst] at h
    have law : s.StoreSound → _ := fun hs => (State.imageSound_erasing hst).mp hs.2
    cases erased with
    | false =>
      simp only [Bool.false_eq_true, if_false] at h
      injection h with h
      subst h
      exact endStore_invalid (r := s.region) _ _ fun hs => ⟨hs.1, (law hs).2.1⟩
    | true =>
      simp only [if_true] at h
      split at h <;> injection h with h <;> subst h
      · cases op with
        | erase => exact endStore_invalid (r := s.region.setErased block) _ _ fun hs =>
            ⟨Region.Sound.setErased hs.1 _, Region.holdsMarker_setErased_of (law hs).2.1 _⟩
        | save m =>
          refine of_store (r := (s.region.setErased block).beginProgram 1) (x := .programming m 1 false false)
            (im := s.imageState) fun _ hs => ?_
          obtain ⟨him, hm, hr⟩ := law hs
          refine ⟨(Region.Sound.setErased hs.1 _).beginProgram _, (State.imageSound_programming rfl).mpr
            ⟨him, ?_, hr m rfl, Nat.le_refl _, by decide, fun p h1 h2 => by omega⟩⟩
          exact (Region.samePage_beginProgram (by decide)).holdsMarker.trans (Region.holdsMarker_setErased_of hm _)
      · refine of_store (r := (s.region.setErased block).beginErase (block + 1)) (x := .erasing op (block + 1))
          (im := s.imageState) fun _ hs => ?_
        obtain ⟨him, hm, hr⟩ := law hs
        refine ⟨(Region.Sound.setErased hs.1 _).beginErase _, (State.imageSound_erasing rfl).mpr ⟨him, ?_, hr⟩⟩
        refine (Region.samePage_beginErase ?_).holdsMarker.trans (Region.holdsMarker_setErased_of hm _)
        have hb : block.val + 1 < 4 := by omega
        simp [Fin.val_add, Nat.mod_eq_of_lt hb]

/-- ERASE_TIMEOUT (R163). -/
theorem eraseTimeout {s t : State} (h : execEraseTimeout s = .next t) : Keeps s t := by
  unfold execEraseTimeout at h
  cases hst : s.store with
  | idle => simp only [hst] at h; injection h with h; exact h ▸ refl s
  | programming m p x y => simp only [hst] at h; injection h with h; exact h ▸ refl s
  | marking m x y => simp only [hst] at h; injection h with h; exact h ▸ refl s
  | erasing op block =>
    simp only [hst] at h
    injection h with h
    subst h
    exact endStore_invalid (r := s.region) _ _ fun hs => ⟨hs.1, ((State.imageSound_erasing hst).mp hs.2).2.1⟩

/-- A page program that failed is taken once more, or ends the save with no marker (R163). -/
theorem programFails (s : State) : Keeps s s.programFails := by
  unfold State.programFails
  cases hst : s.store with
  | idle => exact refl s
  | erasing op block => exact refl s
  | programming m page again complete =>
    have law : s.StoreSound → _ := fun hs => (State.imageSound_programming hst).mp hs.2
    have unmarked : s.StoreSound → (s.region.beginProgram page).holdsMarker = false := fun hs => by
      obtain ⟨_, hm, _, h1, _⟩ := law hs
      rw [(Region.samePage_beginProgram (by omega)).holdsMarker, hm]
    refine ite (endStore_invalid _ _ fun hs => ⟨Region.Sound.beginProgram hs.1 _, unmarked hs⟩) ?_
    unfold State.beginPage
    refine of_store (im := s.imageState) fun _ hs => ⟨Region.Sound.beginProgram hs.1 _, ?_⟩
    obtain ⟨him, _, hr, h1, h2, hp⟩ := law hs
    exact (State.imageSound_programming rfl).mpr ⟨him, unmarked hs, hr, h1, h2,
      hp.congr fun p _ _ => Region.samePage_beginProgram (by omega)⟩
  | marking m again complete =>
    refine ite (endStore_invalid _ _ fun hs => ⟨Region.Sound.beginProgram hs.1 _, Region.holdsMarker_beginProgram _⟩) ?_
    unfold State.beginMark
    refine of_store (im := s.imageState) fun _ hs => ⟨Region.Sound.beginProgram hs.1 _, ?_⟩
    obtain ⟨him, hr, hp, _⟩ := (State.imageSound_marking hst).mp hs.2
    exact (State.imageSound_marking (y := false) rfl).mpr ⟨him, hr, hp.congr fun p _ _ => Region.samePage_beginProgram (by omega),
      Region.holdsMarker_beginProgram _⟩

/-- A page program that verified: the page joins those that hold the snapshot, and the marker page ends the save VALID (R163). -/
theorem programVerifies (s : State) : Keeps s s.programVerifies := by
  unfold State.programVerifies
  cases hst : s.store with
  | idle => exact refl s
  | erasing op block => exact refl s
  | programming m page again complete =>
    have law : s.StoreSound → _ := fun hs => (State.imageSound_programming hst).mp hs.2
    dsimp only
    unfold State.beginPage State.beginMark
    split
    · refine of_store (im := s.imageState) fun _ hs => ?_
      obtain ⟨him, hm, hr, h1, h2, hp⟩ := law hs
      refine ⟨(Region.Sound.programmed hs.1 h2 _).beginProgram _, (State.imageSound_programming rfl).mpr
        ⟨him, ?_, hr, by omega, by omega, ?_⟩⟩
      · rw [(Region.samePage_beginProgram (by omega)).holdsMarker, (Region.samePage_programmed (by omega)).holdsMarker, hm]
      · exact (hp.programmed h1 h2).congr fun p _ hpage => Region.samePage_beginProgram (by omega)
    · refine of_store (im := s.imageState) fun _ hs => ?_
      obtain ⟨him, _, hr, h1, h2, hp⟩ := law hs
      have hpage : page = 21 := by omega
      subst hpage
      exact ⟨(Region.Sound.programmed hs.1 h2 _).beginProgram _, (State.imageSound_marking (y := false) rfl).mpr ⟨him, hr,
        (hp.programmed h1 h2).congr fun p _ _ => Region.samePage_beginProgram (by omega),
        Region.holdsMarker_beginProgram _⟩⟩
  | marking m again complete =>
    refine endStore (r := s.region.programmed 0 (m.pageBytes 0)) _ _ fun hs => ?_
    obtain ⟨_, hr, hp, _⟩ := (State.imageSound_marking hst).mp hs.2
    exact ⟨Region.Sound.programmed hs.1 (Nat.zero_le _) _, by simp [Region.check_programmed hp hr]⟩

/-- A page program that has run to its end, its verify not yet taken (R167). -/
theorem programEnds (s : State) : Keeps s s.programEnds := by
  unfold State.programEnds
  cases hst : s.store with
  | idle => exact refl s
  | erasing op block => exact refl s
  | programming m page again complete =>
    refine of_store (im := s.imageState) fun _ hs => ?_
    obtain ⟨him, hm, hr, h1, h2, hp⟩ := (State.imageSound_programming hst).mp hs.2
    exact ⟨Region.Sound.programmed hs.1 h2 _, (State.imageSound_programming rfl).mpr ⟨him,
      by rw [(Region.samePage_programmed (by omega)).holdsMarker, hm], hr, h1, h2,
      hp.congr fun p _ _ => Region.samePage_programmed (by omega)⟩⟩
  | marking m again complete =>
    refine of_store (im := s.imageState) fun _ hs => ?_
    obtain ⟨him, hr, hp, _⟩ := (State.imageSound_marking hst).mp hs.2
    exact ⟨Region.Sound.programmed hs.1 (Nat.zero_le _) _, (State.imageSound_marking (y := true) rfl).mpr ⟨him, hr,
      hp.congr fun p _ _ => Region.samePage_programmed (by omega), Region.check_programmed hp hr⟩⟩

/-- A cancel leaves no marker, in any step of an operation (R165, log entry 21). -/
theorem cancelStore {s : State} (byPin : Bool) (h : s.store ≠ .idle) : Keeps s (s.cancelStore byPin) := by
  refine endStore_invalid _ _ fun hs => ?_
  unfold State.cancelledRegion
  cases hst : s.store with
  | idle => exact absurd hst h
  | erasing op block => exact ⟨hs.1, ((State.imageSound_erasing hst).mp hs.2).2.1⟩
  | programming m page again complete => exact ⟨hs.1, ((State.imageSound_programming hst).mp hs.2).2.1⟩
  | marking m again complete =>
    cases complete with
    | true => exact ⟨Region.Sound.beginProgram hs.1 _, Region.holdsMarker_beginProgram _⟩
    | false => exact ⟨hs.1, ((State.imageSound_marking hst).mp hs.2).2.2.2⟩

end Keeps
end Sys2Proof.Machine
end

section
/-!
What the requests keep of the laws (O56, O58), one lemma for each, and all of them in `Keeps.handle`.
-/

namespace Sys2Proof.Machine

/-! ### Two stations with one address (R21) -/

theorem anyClash_eq_false {arr : Arrangement} {cs : Fin 64 → StationConfig} :
    anyClash arr cs = false ↔ ∀ i j, i ≠ j → clash arr (cs i) (cs j) = false := by
  simp [anyClash]

theorem clash_symm (arr : Arrangement) (c d : StationConfig) : clash arr c d = clash arr d c := by
  unfold clash sameScope
  cases arr <;> simp [Bool.and_comm, Bool.and_left_comm, eq_comm]

/-- Stations that clash in INDEPENDENT clash in PAIRED, where every station is in one scope. -/
theorem clash_paired {arr : Arrangement} {c d : StationConfig} (h : clash .paired c d = false) : clash arr c d = false := by
  unfold clash sameScope at *
  simp only [Bool.and_true] at h
  rw [h, Bool.false_and]

namespace Keeps

/-- A request that is accepted keeps the laws when its effect does. -/
theorem ok {s t : State} (h : Keeps s t) (items : List Byte) : Keeps s (t.ok items).state := h

theorem accepted {s t : State} (h : Keeps s t) (items : List Byte) : Keeps s (t.accepted items).state := h

/-! ### Part and ports -/

theorem doGetStatus (s : State) : Keeps s s.doGetStatus.state := of_quiet

theorem doTimeSet (s : State) (v : Stamp) : Keeps s (s.doTimeSet v).state := of_quiet

theorem maskRecord (s : State) (i : Fin 64) : Keeps s (s.maskRecord i) := by
  unfold State.maskRecord; exact ite ((setAttn _ _ _).trans (handOver _ _ _)) (refl _)

theorem maskSet (s : State) : Keeps s s.maskSet := foldl _ maskRecord _ _

theorem doPartSet (s : State) (m d n : Byte) : Keeps s (s.doPartSet m d n).state := by
  unfold State.doPartSet
  split
  · rename_i m' d' _ _
    have written : Keeps s { s with mask := m', demandLevel := d', enables := .ofByte n } := of_quiet
    exact ite written (written.trans (maskSet _))
  · exact refl _

theorem doPortSet (s : State) (p : Byte) (l : List Byte) : Keeps s (s.doPortSet p l).state := by
  unfold State.doPortSet
  split
  · rename_i hc
    split
    · exact ok (withPort (fun _ => PortSettings.inRange_of_ofBytes hc) id) _
    · exact refl _
  · exact refl _

theorem doPortGet (s : State) (p : Byte) : Keeps s (s.doPortGet p).state := by
  unfold State.doPortGet; split <;> exact refl _

/-! ### Engines and timetables -/

theorem doLineStart (s : State) (e : Byte) : Keeps s (s.doLineStart e).state := by
  unfold State.doLineStart
  split
  · split
    · exact refl _
    · rename_i ha
      split
      · exact startEngine fun he hp => ha ⟨he, hp⟩
      · exact refl _
  · exact refl _

theorem doLineStop (s : State) (e m : Byte) : Keeps s (s.doLineStop e m).state := by
  unfold State.doLineStop
  split
  · split
    · exact refl _
    · rename_i hr; exact setStopping _ (by simp [hr])
    · rename_i hr
      split
      · exact setStopping _ (by simp [hr])
      · exact refl _
  · exact refl _

theorem doLineStatus (s : State) (e : Byte) : Keeps s (s.doLineStatus e).state := by
  unfold State.doLineStatus; split <;> exact refl _

/-- A change of a shadow bank that keeps it in range, where the active one is (R38). -/
theorem withShadow {s : State} {e : Engine} {f : Bank → Bank}
    (h : (s.engine e).Sound → ∀ b : Bank, b.InRange → (f b).InRange) : Keeps s (s.withShadow e f) := by
  refine withEngine (fun hs => ?_) ?_
  · cases hb : (s.engine e).active.other with
    | x => exact ⟨h hs _ hs.bankX, hs.bankY, hs.demands⟩
    | y => exact ⟨hs.bankX, h hs _ hs.bankY, hs.demands⟩
  · cases (s.engine e).active.other <;> exact id

theorem doSlotSet (s : State) (e n : Byte) (l : List Byte) : Keeps s (s.doSlotSet e n l).state := by
  unfold State.doSlotSet
  split
  · rename_i hsl
    refine ok (withShadow ?_) _
    intro _ b hb
    refine ⟨hb.1, fun i => ?_⟩
    simp only [Fin.getElem_fin, Vector.getElem_set]
    split
    · exact Slot.inRange_of_ofBytes hsl
    · exact hb.2 i
  · exact refl _

theorem doSlotGet (s : State) (e b n : Byte) : Keeps s (s.doSlotGet e b n).state := by
  unfold State.doSlotGet; split <;> exact refl _

theorem doBankHeaderSet (s : State) (e : Byte) (l : List Byte) : Keeps s (s.doBankHeaderSet e l).state := by
  unfold State.doBankHeaderSet
  split
  · rename_i hh
    refine ok (withShadow ?_) _
    intro _ b hb
    exact ⟨BankHeader.inRange_of_ofBytes hh, hb.2⟩
  · exact refl _

theorem doBankHeaderGet (s : State) (e b : Byte) : Keeps s (s.doBankHeaderGet e b).state := by
  unfold State.doBankHeaderGet; split <;> exact refl _

end Keeps

theorem EngineState.Sound.activeBank {en : EngineState} (h : en.Sound) : en.activeBank.InRange := by
  unfold EngineState.activeBank EngineState.bank
  split
  · exact h.bankX
  · exact h.bankY

namespace Keeps

theorem doBankCopy (s : State) (e : Byte) : Keeps s (s.doBankCopy e).state := by
  unfold State.doBankCopy
  split
  · exact withShadow fun hs _ _ => hs.activeBank
  · exact refl _

theorem doBankSwap (s : State) (e x : Byte) : Keeps s (s.doBankSwap e x).state := by
  unfold State.doBankSwap
  split
  · exact ok (withEngine_quiet rfl rfl rfl rfl) _
  · exact refl _

/-! ### Stations -/

/-- A configuration that meets its ranges and no other station's address in its scope is written (R22, R23). -/
theorem configure {s : State} {i : Fin 64} {c : StationConfig} (hc : c.InRange)
    (hd : c.enabled = true → s.duplicates i c = false) : Keeps s (s.withStation i (Station.configured · c)) := by
  refine of_same (by constructor <;> simp) (fun h => ?_) (fun x hx => by simpa using hx)
  have hst : ∀ j, ((s.withStation i (Station.configured · c)).station j).Sound := fun j => by
    by_cases hj : j = i
    · subst hj; rw [State.withStation_station]; exact ⟨hc, rfl⟩
    · rw [State.withStation_station_other s _ hj]; exact h.station j
  have hfree : ∀ j, j ≠ i → clash s.arrangement c (s.station j).config = false := fun j hj => by
    cases he : c.enabled with
    | false => simp [clash, he]
    | true =>
      have := hd he
      simp only [State.duplicates, List.any_eq_false] at this
      simpa [hj] using this j (List.mem_finRange j)
  have hclash : anyClash s.arrangement (fun j => ((s.withStation i (Station.configured · c)).station j).config) = false := by
    refine anyClash_eq_false.mpr fun j k hjk => ?_
    by_cases hj : j = i
    · subst hj
      rw [State.withStation_station, State.withStation_station_other s _ (Ne.symm hjk)]
      exact hfree k (Ne.symm hjk)
    · rw [State.withStation_station_other s _ hj]
      by_cases hk : k = i
      · subst hk
        rw [State.withStation_station, clash_symm]
        exact hfree j hj
      · rw [State.withStation_station_other s _ hk]
        exact anyClash_eq_false.mp h.noClash j k hjk
  exact {
    notices := by simpa using h.notices
    engine := by simpa using h.engine
    port := by simpa using h.port
    station := hst
    descriptor := by simpa using h.descriptor
    pair := by simpa using h.pair
    noClash := by simpa using hclash
    stopsB := by simpa using h.stopsB }

theorem reevaluate (s : State) (i : Fin 64) : Keeps s (s.reevaluate i) := (setAttn _ _ _).trans (escalationCheck _ _)

theorem reconfigure (s : State) (i : Fin 64) : Keeps s (s.reconfigure i) := by
  unfold State.reconfigure
  exact ite (setAttn _ _ _) (ite (ite ((reevaluate _ _).trans (handOver _ _ _)) (reevaluate _ _)) (refl _))

theorem doStationSet (s : State) (i : Byte) (l : List Byte) : Keeps s (s.doStationSet i l).state := by
  unfold State.doStationSet
  split
  · rename_i hc
    split
    · exact refl _
    · split
      · exact refl _
      · rename_i hd
        exact (configure (StationConfig.inRange_of_ofBytes hc) fun he => by simpa [he] using hd).trans (reconfigure _ _)
  · exact refl _

theorem doStationGet (s : State) (i : Byte) : Keeps s (s.doStationGet i).state := by
  unfold State.doStationGet; split <;> exact refl _

/-- The stations are renewed under an arrangement without two of one address in one scope, both engines STOPPED (R34, R35). -/
theorem renew {s : State} {x : Arrangement} (hb : s.engineB.isStopped = true)
    (hx : x = .paired → anyClash .paired (fun i => (s.station i).config) = false) :
    Keeps s { s with arrangement := x, stations := s.stations.map Station.rearranged } := by
  refine of_same ⟨rfl, rfl, rfl, id, rfl, rfl, rfl, rfl⟩ (fun h => ?_) (fun p hp => by cases p <;> exact hp)
  have hst : ∀ i, ({ s with arrangement := x, stations := s.stations.map Station.rearranged } : State).station i =
      (s.station i).rearranged := fun i => by simp [State.station]
  exact {
    notices := h.notices
    engine := fun e => by cases e; exacts [h.engine .a, h.engine .b]
    port := fun p => by cases p; exacts [h.port .a, h.port .b]
    station := fun i => by rw [hst]; exact ⟨(h.station i).config, rfl⟩
    descriptor := h.descriptor
    pair := h.pair
    noClash := by
      refine anyClash_eq_false.mpr fun i j hij => ?_
      rw [hst, hst]
      show clash x (s.station i).config (s.station j).config = false
      cases x with
      | paired => exact anyClash_eq_false.mp (hx rfl) i j hij
      | independent =>
        have := anyClash_eq_false.mp h.noClash i j hij
        cases ha : s.arrangement with
        | independent => rwa [ha] at this
        | paired => rw [ha] at this; exact clash_paired this
    stopsB := fun _ => of_decide_eq_true hb }

theorem doArrange (s : State) (x : Byte) : Keeps s (s.doArrange x).state := by
  unfold State.doArrange
  split
  · rename_i y _
    split
    · rename_i hstop
      split
      · exact refl _
      · rename_i hclash
        have renewed := renew (s := s) (x := y) hstop.2 fun hy => by simpa [hy] using hclash
        show Keeps s (s.rearrange y)
        unfold State.rearrange
        exact ite renewed (renewed.trans ((discardDemands _ _).trans (discardDemands _ _)))
    · exact refl _
  · exact refl _

/-! ### Descriptors and pairs -/

theorem doDescriptorSet (s : State) (d : Byte) (l : List Byte) : Keeps s (s.doDescriptorSet d l).state := by
  unfold State.doDescriptorSet
  split
  · rename_i hr
    split
    · exact refl _
    · exact setDescriptor fun _ => Descriptor.inRange_of_ofBytes hr
  · exact refl _

theorem doDescriptorGet (s : State) (d : Byte) : Keeps s (s.doDescriptorGet d).state := by
  unfold State.doDescriptorGet; split <;> exact refl _

theorem doPairSet (s : State) (p d : Byte) : Keeps s (s.doPairSet p d).state := by
  unfold State.doPairSet
  split
  · split
    · exact setPair fun _ => Pair.stateFits_init _
    · exact refl _
  · exact refl _

theorem doPairGet (s : State) (p : Byte) : Keeps s (s.doPairGet p).state := by
  unfold State.doPairGet; split <;> exact refl _

theorem doPairRead (s : State) (p k n : Byte) : Keeps s (s.doPairRead p k n).state := by
  unfold State.doPairRead
  split
  · split <;> exact refl _
  · exact refl _

theorem doPairWrite (s : State) (p k : Byte) (ws : List Word) : Keeps s (s.doPairWrite p k ws).state := by
  unfold State.doPairWrite
  split
  · dsimp only
    split
    · exact refl _
    · split
      · exact refl _
      · split
        · exact refl _
        · exact setPair fun h => Pair.stateFits_setHalf h _ _
  · exact refl _

theorem doPairRelease (s : State) (p : Byte) : Keeps s (s.doPairRelease p).state := by
  unfold State.doPairRelease
  split
  · rename_i q _
    split
    · exact refl _
    · rename_i hd
      have hc : (s.pair q).direction = .capture := by cases h : (s.pair q).direction <;> simp_all
      exact setPair fun _ => by simp [Pair.StateFits, hc]
  · exact refl _

theorem doPairCommit (s : State) (p : Byte) : Keeps s (s.doPairCommit p).state := by
  unfold State.doPairCommit
  split
  · rename_i q _
    split
    · exact refl _
    · rename_i hd
      have ho : (s.pair q).direction = .output := by cases h : (s.pair q).direction <;> simp_all
      exact setPair fun _ => by simp [Pair.StateFits, ho]
  · exact refl _

/-! ### Demands, the service stack and the store -/

theorem doDemand (s : State) (tag e i k : Byte) (pt : Word) (n : Byte) (ws : List Word) :
    Keeps s (s.doDemand tag e i k pt n ws).state := by
  unfold State.doDemand
  split
  · exact refl _
  · split
    · rename_i e i k _ _ _
      split
      · exact refl _
      · split
        · exact refl _
        · split
          · exact refl _
          · split
            · exact refl _
            · split
              · exact refl _
              · rename_i hroom
                exact accepted (withEngine (fun h => ⟨h.bankX, h.bankY, by simpa using hroom⟩) id) _
    · exact refl _

theorem pushStation (s : State) (i : Fin 64) : Keeps s (s.pushStation i) := of_quiet

theorem doTake (s : State) : Keeps s s.doTake.state := by
  unfold State.doTake
  split
  · exact refl _
  · split
    · split
      · exact pushStation _ _
      · exact refl _
    · exact refl _

theorem releaseStation (s : State) (i : Fin 64) : Keeps s (s.releaseStation i) := by
  unfold State.releaseStation; exact ite (setAttn _ _ _) (setAttn _ _ _)

theorem reoffer (s : State) : Keeps s s.reoffer := by
  unfold State.reoffer
  split
  · exact ite (raise _ _) (refl _)
  · exact refl _

theorem doDone (s : State) : Keeps s s.doDone.state := by
  unfold State.doDone
  split
  · exact refl _
  · rename_i x rest _
    have popped : Keeps s { s with stack := rest } := of_quiet
    exact popped.trans ((releaseStation _ _).trans (reoffer _))

theorem doStoreSave (s : State) (a b : Byte) : Keeps s (s.doStoreSave a b).state := by
  unfold State.doStoreSave
  split
  · split
    · exact refl _
    · split
      · exact beginStore fun h m hm => by injection hm with hm; exact hm ▸ h.snapshot _ _
      · exact refl _
  · exact refl _

theorem doStoreErase (s : State) : Keeps s s.doStoreErase.state := by
  unfold State.doStoreErase
  split
  · exact refl _
  · split
    · exact beginStore fun _ m hm => by cases hm
    · exact refl _

theorem doStoreCancel (s : State) : Keeps s s.doStoreCancel.state := by
  unfold State.doStoreCancel
  split
  · exact refl _
  · rename_i h; exact cancelStore false h

/-! ### Every request -/

theorem handlePairWrite (s : State) (p k : Byte) (l : List Byte) : Keeps s (s.handlePairWrite p k l).state := by
  unfold State.handlePairWrite
  split
  · split
    · exact doPairWrite _ _ _ _
    · exact refl _
  · exact refl _

theorem handleDemand (s : State) (tag e i k p1 p0 n : Byte) (l : List Byte) :
    Keeps s (s.handleDemand tag e i k p1 p0 n l).state := by
  unfold State.handleDemand
  split
  · split
    · exact doDemand _ _ _ _ _ _ _ _
    · exact refl _
  · exact refl _

/-- A request keeps the laws, whatever its KIND and payload: it is answered by its owner or refused. -/
theorem handle (s : State) (f : Frame) : Keeps s (s.handle f).state := by
  unfold State.handle
  split
  · split <;> exact refl _
  · split; exacts [doGetStatus _, refl _]
  · split <;> exact refl _
  · split; exacts [doTimeSet _ _, refl _]
  · split; exacts [doPartSet _ _ _ _, refl _]
  · split <;> exact refl _
  · split; exacts [doArrange _ _, refl _]
  · split; exacts [doPortSet _ _ _, refl _]
  · split; exacts [doPortGet _ _, refl _]
  · split; exacts [doLineStart _ _, refl _]
  · split; exacts [doLineStop _ _ _, refl _]
  · split; exacts [doLineStatus _ _, refl _]
  · split; exacts [doStationSet _ _ _, refl _]
  · split; exacts [doStationGet _ _, refl _]
  · split
    · split; exacts [doSlotSet _ _ _ _, refl _]
    · exact refl _
  · split; exacts [doSlotGet _ _ _ _, refl _]
  · split; exacts [doBankHeaderSet _ _ _, refl _]
  · split; exacts [doBankHeaderGet _ _ _, refl _]
  · split; exacts [doBankCopy _ _, refl _]
  · split; exacts [doBankSwap _ _ _, refl _]
  · split
    · split; exacts [doDescriptorSet _ _ _, refl _]
    · exact refl _
  · split; exacts [doDescriptorGet _ _, refl _]
  · split; exacts [doPairSet _ _ _, refl _]
  · split; exacts [doPairGet _ _, refl _]
  · split; exacts [doPairRead _ _ _ _, refl _]
  · split; exacts [handlePairWrite _ _ _ _, refl _]
  · split; exacts [doPairRelease _ _, refl _]
  · split; exacts [doPairCommit _ _, refl _]
  · split; exacts [handleDemand _ _ _ _ _ _ _ _ _, refl _]
  · split; exacts [doTake _, refl _]
  · split; exacts [doDone _, refl _]
  · split; exacts [doStoreSave _ _ _, refl _]
  · split; exacts [doStoreErase _, refl _]
  · split; exacts [doStoreCancel _, refl _]
  · exact refl _

end Keeps
end Sys2Proof.Machine
end

section
/-!
Every command and every step keep the laws of the tables, the store, the link and the ports (O56, O58): the arrival of frames, the
events of the field lines and the host link, and the resets.
-/

namespace Sys2Proof.Machine

/-- The laws of O56 and O58 pass from `s` to `t`. -/
structure Preserves (s t : State) : Prop where
  tables : s.TablesFit → t.TablesFit
  units : s.TablesFit → s.PlantSound → s.LinkSound → t.PlantSound ∧ t.LinkSound

theorem Keeps.preserves {s t : State} (h : Keeps s t) : Preserves s t :=
  ⟨fun hs => (h hs).tables, fun hs hp hl => ⟨(h hs).plant hp, (h hs).link hl⟩⟩

theorem Preserves.trans {s t u : State} (h : Preserves s t) (k : Preserves t u) : Preserves s u :=
  ⟨fun hs => k.tables (h.tables hs), fun hs hp hl => k.units (h.tables hs) (h.units hs hp hl).1 (h.units hs hp hl).2⟩

/-! ### Frames on the link (R147 to R151) -/

theorem State.TablesFit.transmit {s : State} (h : s.TablesFit) : s.transmit.TablesFit where
  notices := Nat.le_trans s.transmit_notices_le h.notices
  engine e := by cases e; exacts [by simpa [State.engine] using h.engine .a, by simpa [State.engine] using h.engine .b]
  port p := by cases p; exacts [by simpa [State.port] using h.port .a, by simpa [State.port] using h.port .b]
  station i := by simpa [State.station] using h.station i
  descriptor d := by simpa [State.descriptor] using h.descriptor d
  pair p := by simpa [State.pair] using h.pair p
  noClash := by simpa [State.station] using h.noClash
  stopsB := by simpa [State.engine] using h.stopsB

theorem State.PlantSound.transmit {s : State} (h : s.PlantSound) : s.transmit.PlantSound :=
  ⟨h.store.congr (by simp) (by simp) (by simp), fun p => by
    cases p; exacts [by simpa [State.port] using h.port .a, by simpa [State.port] using h.port .b]⟩

/-- The work of a dispatch, before the reply is placed. -/
theorem Keeps.dispatched (s : State) (f : Frame) : Keeps s ((s.reserveTx f).handle f).state := by
  have reserved : Keeps s (s.reserveTx f) := by
    refine Keeps.of_quiet ⟨rfl, rfl, rfl, fun h => ?_, rfl, rfl, rfl, rfl⟩
    cases hx : s.tx with
    | none => rfl
    | some x => simp [State.reserveTx, hx] at h
  exact reserved.trans (Keeps.handle _ f)

theorem State.TablesFit.dispatch {s : State} (h : s.TablesFit) (f : Frame) : (s.dispatch f).TablesFit :=
  State.TablesFit.transmit (Keeps.dispatched s f h).tables.of_same

theorem State.PlantSound.dispatch {s : State} (hp : s.PlantSound) (ht : s.TablesFit) (f : Frame) :
    (s.dispatch f).PlantSound := by
  have h := (Keeps.dispatched s f ht).plant hp
  exact State.PlantSound.transmit ⟨h.store.congr rfl rfl rfl, h.port⟩

/-- Behind a dispatch the link's law holds whatever stood in the reply slot before: the buffers fit the link. -/
theorem State.linkSound_dispatch {s : State} {f : Frame} (ht : s.TablesFit) (hf : f.payload.length ≤ Config.maxPayload)
    (hh : ∀ g, s.held = some g → g.payload.length ≤ Config.maxPayload) : (s.dispatch f).LinkSound := by
  refine State.linkSound_transmit (fun h => by cases h) ?_
  rintro g (hg | hg)
  · injection hg with hg; exact hg ▸ hf
  · exact hh g ((Keeps.dispatched s f ht).held ▸ hg)

/-- A complete frame is dispatched, held or discarded (R148). -/
theorem Preserves.acceptFrame {s : State} {f : Frame} (hf : f.payload.length ≤ Config.maxPayload) :
    Preserves s (s.acceptFrame f) := by
  unfold State.acceptFrame
  split
  · rename_i hproc
    refine ⟨fun hs => hs.dispatch f, fun hs hp hl => ⟨hp.dispatch hs f, State.linkSound_dispatch hs hf fun g hg => ?_⟩⟩
    rw [(hl.2.1 hproc).2] at hg
    cases hg
  · rename_i g hproc hheld
    refine ⟨fun hs => hs.of_same, fun hs hp hl => ⟨⟨hp.store.congr rfl rfl rfl, hp.port⟩, ?_⟩⟩
    obtain ⟨hfree, hempty, hfit⟩ := hl
    refine ⟨hfree, fun hn => absurd (hproc.symm.trans hn) (by simp), ?_⟩
    rintro x (hx | hx)
    · exact hfit x (.inl hx)
    · injection hx with hx; exact hx ▸ hf
  · exact (Keeps.refl s).preserves

theorem Keeps.setRx (s : State) (x : LinkRx) : Keeps s { s with rx := x } := of_quiet

theorem Preserves.receiveFrame (s : State) (f : Frame) : Preserves s (s.receiveFrame f) := by
  unfold State.receiveFrame
  split
  · rename_i hf; exact (Keeps.setRx s _).preserves.trans (Preserves.acceptFrame hf)
  · exact (Keeps.setRx s _).preserves

/-- A frame with a good check carries no more payload than its LEN says. -/
theorem Frame.length_of_ofBytes {bytes : List Byte} {f : Frame} (h : Frame.ofBytes bytes = some f) :
    f.payload.length ≤ (bytes.headD 0).toNat := by
  unfold Frame.ofBytes at h
  split at h
  · dsimp only at h
    split at h
    · injection h with h; subst h; simp
    · cases h
  · cases h

/-- A byte completes a frame whose LEN the link carries alone (R147). -/
theorem LinkRx.len_of_takeByte {rx : LinkRx} {b : Byte} {stop : Level} {returned : Bool} {all : List Byte}
    (h : (rx.takeByte b stop returned).2 = some all) : (all.headD 0).toNat ≤ Config.maxPayload := by
  unfold LinkRx.takeByte at h
  split at h
  · cases h
  · cases h
  · dsimp only at h
    split at h
    · cases h
    · split at h
      · cases h
      · split at h
        · injection h with h; subst h; omega
        · cases h

theorem LinkRx.len_of_completes {rx : LinkRx} {rest all : List Byte} (h : rx.completes rest = some all) :
    (all.headD 0).toNat ≤ Config.maxPayload := by
  induction rest generalizing rx with
  | nil => cases h
  | cons b rest ih =>
    cases rest with
    | nil => exact LinkRx.len_of_takeByte h
    | cons c rest =>
      rw [LinkRx.completes] at h
      · split at h
        · exact ih h
        · cases h
      · simp

theorem Preserves.frameComplete {s : State} {bytes : List Byte} (h : (bytes.headD 0).toNat ≤ Config.maxPayload) :
    Preserves s (s.frameComplete bytes) := by
  unfold State.frameComplete
  split
  · rename_i hf; exact Preserves.acceptFrame (Nat.le_trans (Frame.length_of_ofBytes hf) h)
  · exact (Keeps.refl s).preserves

theorem Preserves.hostByte (s : State) (b : Byte) (stop : Level) (returned : Bool) :
    Preserves s (s.hostByte b stop returned) := by
  unfold State.hostByte
  split
  · exact (Keeps.setRx s _).preserves
  · rename_i hx
    exact (Keeps.setRx s _).preserves.trans (Preserves.frameComplete (LinkRx.len_of_takeByte (congrArg Prod.snd hx)))

theorem Preserves.requestFrameComplete {s t : State} {rest : List Byte} (h : execRequestFrameComplete rest s = .next t) :
    Preserves s t := by
  unfold execRequestFrameComplete at h
  split at h <;> injection h with h <;> subst h
  · rename_i hx
    exact (Keeps.setRx s _).preserves.trans (Preserves.frameComplete (LinkRx.len_of_completes hx))
  · exact (Keeps.refl s).preserves

theorem Preserves.hostGapTimerExpiry {s t : State} (h : execHostGapTimerExpiry s = .next t) : Preserves s t := by
  unfold execHostGapTimerExpiry at h
  split at h <;> injection h with h <;> subst h
  · exact (Keeps.setRx s _).preserves
  · exact (Keeps.refl s).preserves
  · exact (Keeps.refl s).preserves

/-- A frame has been sent and the transmitter chooses the next (R151). -/
theorem Preserves.chooseNext (s : State) : Preserves s ({ s with tx := none } : State).transmit where
  tables h := State.TablesFit.transmit h.of_same
  units _ hp hl := ⟨State.PlantSound.transmit ⟨hp.store.congr rfl rfl rfl, hp.port⟩, State.linkSound_transmit hl.2.1 hl.2.2⟩

theorem Preserves.noticeSent {s t : State} (h : execNoticeSent s = .next t) : Preserves s t := by
  unfold execNoticeSent at h
  split at h <;> injection h with h <;> subst h
  · exact Preserves.chooseNext s
  · exact (Keeps.refl s).preserves
  · exact (Keeps.refl s).preserves

/-! ### Reset and start-up (R158, R159, R167 to R170) -/

theorem Slot.inRange_reset : Slot.reset.InRange := ⟨by decide, by decide, fun x h => by cases h⟩

theorem Bank.inRange_reset : Bank.reset.InRange := ⟨by decide, fun i => by simpa [Bank.reset] using Slot.inRange_reset⟩

theorem EngineState.sound_reset : EngineState.reset.Sound := ⟨Bank.inRange_reset, Bank.inRange_reset, Nat.zero_le _⟩

theorem PortSettings.inRange_reset : PortSettings.reset.InRange := ⟨by decide, by decide⟩

theorem Descriptor.inRange_reset : Descriptor.reset.InRange := ⟨by decide, by decide, by decide⟩

theorem Station.sound_fresh {c : StationConfig} (h : c.InRange) : (Station.fresh c).Sound := ⟨h, rfl⟩

theorem StationConfig.inRange_reset (i : Fin 64) : (StationConfig.reset i).InRange := by
  simp only [StationConfig.InRange, StationConfig.reset, BitVec.toNat_ofNat]
  omega

theorem Port.phaseFits_reset (rxd : Level) : (Port.reset rxd).PhaseFits := by
  cases rxd <;> exact ⟨by simp [Port.reset, Monitor.ofLevel], rfl, by simp [Port.reset], by simp [Port.reset]⟩

/-- The blocks' reset values are in range, and no station is enabled. -/
theorem State.tablesFit_resetBlocks (s : State) : s.resetBlocks.TablesFit where
  notices := Nat.zero_le _
  engine e := by cases e <;> exact EngineState.sound_reset
  port p := by cases p <;> exact PortSettings.inRange_reset
  station i := by
    simpa [State.station, State.resetBlocks, State.reset] using Station.sound_fresh (StationConfig.inRange_reset i)
  descriptor d := by
    simpa only [State.descriptor, State.resetBlocks, State.reset, Fin.getElem_fin, Vector.getElem_replicate] using
      Descriptor.inRange_reset
  pair p := by simpa [State.pair, State.resetBlocks, State.reset] using Pair.stateFits_init .capture
  noClash := anyClash_eq_false.mpr fun i j _ => by
    simp [State.station, State.resetBlocks, State.reset, clash, Station.fresh, StationConfig.reset]
  stopsB h := by cases h

/-- An image in range is applied to stopped engines (R169). -/
theorem State.TablesFit.applyImage {s : State} {m : Image} (h : s.TablesFit) (hm : m.InRange)
    (hb : s.engineB.run = .stopped) : (s.applyImage m).TablesFit where
  notices := h.notices
  engine e := by
    cases e
    · exact ⟨⟨hm.headerA, hm.slotsA⟩, ⟨hm.headerA, hm.slotsA⟩, (h.engine .a).demands⟩
    · exact ⟨⟨hm.headerB, hm.slotsB⟩, ⟨hm.headerB, hm.slotsB⟩, (h.engine .b).demands⟩
  port p := by cases p; exacts [hm.portA, hm.portB]
  station i := by simpa [State.station, State.applyImage] using Station.sound_fresh (hm.stations i)
  descriptor d := by simpa [State.descriptor, State.applyImage] using hm.descriptors d
  pair p := by simpa [State.pair, State.applyImage] using Pair.stateFits_init _
  noClash := by simpa [State.station, State.applyImage, Station.fresh] using hm.noClash
  stopsB _ := hb

/-- Engine B is marked for autostart outside PAIRED alone (R170). -/
theorem Keeps.autostart {s : State} {m : Image} (ha : s.arrangement = m.arrangement) : Keeps s (s.autostart m) := by
  have hA : Keeps s (if m.starts .a then s.startEngine .a else s) :=
    Keeps.ite (Keeps.startEngine (by simp)) (Keeps.refl s)
  have harr : (if m.starts .a then s.startEngine .a else s).arrangement = m.arrangement :=
    (EngineFrame.ite (EngineFrame.startEngine s .a) (EngineFrame.refl s)).arrangement.trans ha
  unfold State.autostart
  refine hA.trans ?_
  generalize (if m.starts .a then s.startEngine .a else s) = u at harr
  dsimp only
  split
  · rename_i hs
    refine Keeps.startEngine fun _ hp => ?_
    rw [harr] at hp
    simp [Image.starts, hp] at hs
  · exact Keeps.refl u

/-- Start-up on a region that holds an image (R169, R170). -/
theorem State.startUp_of_image {s : State} {cause : ResetCause} {source : StartSource} {m : Image}
    (h : s.region.check = (source, some m)) {u : State}
    (hu : u = (({ s with imageState := .valid, startSource := source } : State).applyImage m).autostart m) :
    s.startUp cause = u.raise (.started cause source .valid u.arrangement (m.starts .a) (m.starts .b)) := by
  rw [State.startUp, h, hu]

/-- Start-up on a region that holds none (R168, R170). -/
theorem State.startUp_of_none {s : State} {cause : ResetCause} {source : StartSource} (h : s.region.check = (source, none)) :
    s.startUp cause = ({ s with imageState := .invalid, startSource := source } : State).raise
      (.started cause source .invalid s.arrangement false false) := by
  rw [State.startUp, h]

/-- A link with nothing to send and nothing in its buffers meets its law. -/
theorem State.linkSound_of_empty {s : State} (hr : s.replySlot = none) (hn : s.notices = []) (hp : s.processing = none)
    (hh : s.held = none) : s.LinkSound :=
  ⟨fun _ => ⟨hr, hn⟩, fun _ => ⟨hr, hh⟩, fun f hf => by rw [hp, hh] at hf; rcases hf with hf | hf <;> cases hf⟩

theorem State.phaseFits_resetBlocks (s : State) (p : PortId) : (s.resetBlocks.port p).PhaseFits := by
  cases p
  · exact Port.phaseFits_reset s.portA.rxd
  · exact Port.phaseFits_reset s.portB.rxd

/-- What a reset with its start-up leaves (R159, R168): sound tables whatever stood before, and sound units when the region was
sound. -/
theorem State.fullReset_sound (s : State) (cause : ResetCause) : (s.fullReset cause).TablesFit ∧
    (s.RegionSound → (s.fullReset cause).PlantSound ∧ (s.fullReset cause).LinkSound) := by
  have hports := s.phaseFits_resetBlocks
  unfold State.fullReset
  obtain ⟨m, hc⟩ | ⟨x, hx, hc⟩ := s.region.check_source
  · let s1 := ({ s.resetBlocks with imageState := .valid, startSource := .image } : State).applyImage m
    have tables : s1.TablesFit := s.tablesFit_resetBlocks.of_same.applyImage (Region.inRange_of_check hc) rfl
    rw [State.startUp_of_image (s := s.resetBlocks) hc rfl]
    have kept := ((Keeps.autostart (s := s1) (m := m) rfl).trans (Keeps.raise _
      (.started cause .image .valid (s1.autostart m).arrangement (m.starts .a) (m.starts .b)))) tables
    refine ⟨kept.tables, fun hr => ⟨kept.plant ⟨⟨hr, ?_⟩, fun p => ?_⟩, kept.link (State.linkSound_of_empty rfl rfl rfl rfl)⟩⟩
    · exact (State.imageSound_idle rfl).mpr ⟨fun _ => congrArg Prod.fst hc, fun _ => rfl⟩
    · cases p; exacts [hports .a, hports .b]
  · let s1 : State := { s.resetBlocks with imageState := .invalid, startSource := x }
    have tables : s1.TablesFit := s.tablesFit_resetBlocks.of_same
    rw [State.startUp_of_none (s := s.resetBlocks) hc]
    have kept := Keeps.raise s1 (.started cause x .invalid s.resetBlocks.arrangement false false) tables
    refine ⟨kept.tables, fun hr => ⟨kept.plant ⟨⟨hr, ?_⟩, hports⟩, kept.link (State.linkSound_of_empty rfl rfl rfl rfl)⟩⟩
    refine (State.imageSound_idle rfl).mpr ?_
    show ImageState.invalid = .valid ↔ s.region.check.1 = .image
    simp [hc, hx]

theorem Preserves.fullReset (s : State) (cause : ResetCause) : Preserves s (s.fullReset cause) :=
  ⟨fun _ => (s.fullReset_sound cause).1, fun _ hp _ => (s.fullReset_sound cause).2 hp.store.1⟩

/-- A free transmitter's choice leaves nothing in the reply slot. -/
theorem State.transmit_replySlot_of_free {s : State} (h : s.tx = none) : s.transmit.replySlot = none := by
  cases hr : s.replySlot <;> cases hn : s.notices <;> simp [State.transmit, h, hr, hn]

/-- The end of a reply (R148, R158). -/
theorem Preserves.replyEnds (s : State) : Preserves s s.replyEnds := by
  unfold State.replyEnds
  dsimp only
  split
  · exact ⟨fun _ => (State.fullReset_sound _ .restart).1, fun _ hp _ => (State.fullReset_sound _ .restart).2 hp.store.1⟩
  · split
    · rename_i f hf
      have plant : s.PlantSound → ({ s with processing := none, tx := none, held := none } : State).PlantSound := fun h =>
        ⟨h.store.congr rfl rfl rfl, h.port⟩
      refine ⟨fun h => h.of_same.dispatch f, fun h hp hl => ⟨(plant hp).dispatch h.of_same f, ?_⟩⟩
      exact State.linkSound_dispatch h.of_same (hl.2.2 f (.inr hf)) fun g hg => by cases hg
    · rename_i hnone
      refine ⟨fun h => h.of_same.transmit, fun _ hp hl => ⟨State.PlantSound.transmit ⟨hp.store.congr rfl rfl rfl, hp.port⟩, ?_⟩⟩
      refine ⟨State.transmit_free _, fun _ => ⟨State.transmit_replySlot_of_free rfl, by simpa using hnone⟩, fun f hf => ?_⟩
      simp [show s.held = none from hnone] at hf

theorem Preserves.replySent {s t : State} (h : execReplySent s = .next t) : Preserves s t := by
  unfold execReplySent at h
  split at h <;> injection h with h <;> subst h
  · exact Preserves.replyEnds s
  · exact (Keeps.refl s).preserves
  · exact (Keeps.refl s).preserves

/-- POWER_ON and RESET_PIN (R159): the straps are set, and the part is reset. -/
theorem Preserves.resetWith (s : State) (l1 l0 : Level) (cause : ResetCause) :
    Preserves s (({ s with lr1 := l1, lr0 := l0 } : State).fullReset cause) :=
  ⟨fun _ => (State.fullReset_sound _ cause).1, fun _ hp _ => (State.fullReset_sound _ cause).2 hp.store.1⟩

/-! ### Events of the store -/

namespace Keeps

theorem storeWpAsserted {s t : State} {pins : BoardPins} (h : execStoreWpAsserted pins s = .next t) : Keeps s t := by
  unfold execStoreWpAsserted at h
  have pinned : Keeps s { s with storeWp := pins.storeWp, lr1 := pins.lr1, lr0 := pins.lr0 } := of_quiet
  dsimp only at h
  split at h <;> injection h with h <;> subst h
  · rename_i hc; exact pinned.trans (cancelStore true hc.2.2)
  · exact pinned

theorem pageProgramComplete {s t : State} {how : ProgramEnd} (h : execPageProgramComplete how s = .next t) : Keeps s t := by
  cases how <;> injection h with h <;> subst h
  · exact programVerifies s
  · exact programFails s
  · exact programEnds s

theorem programTimeout {s t : State} (h : execProgramTimeout s = .next t) : Keeps s t := by
  unfold execProgramTimeout at h
  split at h <;> injection h with h <;> subst h
  · exact refl s
  · exact programFails s

/-! ### The clock and the engines' events (R51, R54, R157) -/

/-- Microseconds pass: no table moves, and a frame that leaves stays one that leaves. -/
theorem advance (s : State) (us : Nat) : Keeps s (s.advance us) := by
  refine of_same ⟨rfl, rfl, rfl, by simp, rfl, rfl, rfl, rfl⟩ (fun h => ?_) (fun p hp => ?_)
  · exact {
      notices := h.notices
      engine := fun e => by
        cases e
        · exact ⟨(h.engine .a).bankX, (h.engine .a).bankY, (h.engine .a).demands⟩
        · exact ⟨(h.engine .b).bankX, (h.engine .b).bankY, (h.engine .b).demands⟩
      port := fun p => by cases p; exacts [h.port .a, h.port .b]
      station := h.station
      descriptor := h.descriptor
      pair := h.pair
      noClash := h.noClash
      stopsB := h.stopsB }
  · have advanced : ∀ x : Port, x.PhaseFits → (x.advance us).PhaseFits := fun x hx =>
      ⟨hx.1, by simpa [Port.advance, Port.de] using hx.2.1, hx.2.2.1, hx.2.2.2⟩
    cases p; exacts [advanced _ hp, advanced _ hp]

theorem reach (s : State) (e : Engine) (us : Nat) : Keeps s (s.reach e us) := by
  unfold State.reach
  split
  · exact advance _ _
  · exact refl _

theorem periodExpiry {s t : State} {e : Engine} (h : execPeriodExpiry e s = .next t) : Keeps s t := by
  unfold execPeriodExpiry at h
  split at h <;> injection h with h <;> subst h
  · exact (reach _ _ _).trans (periodExpires _ _)
  · exact refl s

theorem slotStartTime {s t : State} {e : Engine} (h : execSlotStartTime e s = .next t) : Keeps s t := by
  unfold execSlotStartTime at h
  dsimp only at h
  split at h
  · split at h <;> injection h with h <;> subst h
    · exact (reach _ _ _).trans (slotStarts _ _)
    · exact refl s
  · injection h with h; exact h ▸ refl s

/-! ### Events of the field lines (chapter 1) -/

/-- The phase of a port whose frame has been sent opens the reply window (R9). -/
theorem requestFrameSent {s t : State} {p : PortId} (h : execRequestFrameSent p s = .next t) : Keeps s t := by
  unfold execRequestFrameSent at h
  split at h <;> injection h with h <;> subst h
  · rename_i a hph
    refine withPort id fun hf => ?_
    have hm := hf.suspended (by simp [hph])
    exact ⟨by simp [Port.begin, hm], by simp [Port.begin, Port.de], by simp [Port.begin], by simp [Port.begin]⟩
  all_goals exact refl s

end Keeps

/-! #### Reply windows -/

/-- A phase of a reply window (R5). -/
def PortPhase.isWindow (ph : PortPhase) : Bool :=
  match ph with
  | .awaiting _ _ => true
  | .receiving _ _ => true
  | .discarding _ _ => true
  | .idle => false
  | .sending _ => false
  | .turnaround => false

theorem Port.receiving_eq_isWindow (p : Port) : p.receiving = p.phase.isWindow := by
  unfold Port.receiving PortPhase.isWindow
  cases p.phase <;> rfl

/-- What agreement with the phase says of a port in a reply window. -/
theorem Port.phaseFits_window_iff {p : Port} (h : p.phase.isWindow = true) : p.PhaseFits ↔
    p.monitor = .suspended ∧ p.shifter = none ∧ (p.rxBreak = true → p.rxd = .low ∧ p.rxChar = none) := by
  unfold Port.PhaseFits
  rw [p.receiving_eq_isWindow, h]
  have hde : p.de = false := by
    unfold Port.de
    cases hp : p.phase <;> simp_all [PortPhase.isWindow]
  have hidle : p.phase ≠ .idle := fun e => by simp [e, PortPhase.isWindow] at h
  simp [hde, hidle]

/-- A port moves on within its reply window. -/
theorem Port.phaseFits_resume {p : Port} {ph : PortPhase} (h : p.PhaseFits) (hp : p.phase.isWindow = true)
    (hph : ph.isWindow = true) : (p.resume ph).PhaseFits :=
  (Port.phaseFits_window_iff (p := p.resume ph) hph).mpr ((Port.phaseFits_window_iff hp).mp h)

/-- A character after which the attempt goes on leaves the port as it is, or moves it on within the reply window. -/
theorem Port.takeChar_goesOn {p y : Port} {v : Byte} {clean : Bool} (h : p.takeChar v clean = .goesOn y) :
    y = p ∨ ∃ ph : PortPhase, ph.isWindow = true ∧ y = p.resume ph := by
  have discards : ∀ a n, p.discard a n = .goesOn y → ∃ ph : PortPhase, ph.isWindow = true ∧ y = p.resume ph := by
    intro a n hd
    unfold Port.discard at hd
    split at hd
    · cases hd
    · injection hd with hd; exact ⟨_, rfl, hd.symm⟩
  unfold Port.takeChar at h
  split at h
  · split at h
    · injection h with h; exact .inr ⟨_, rfl, h.symm⟩
    · split at h
      · cases h
      · injection h with h; exact .inl h.symm
  · split at h
    · unfold Port.receive at h
      split at h
      · exact .inr (discards _ _ h)
      · split at h
        · cases h
        · injection h with h; exact .inr ⟨_, rfl, h.symm⟩
    · exact .inr (discards _ _ h)
  · exact .inr (discards _ _ h)
  all_goals injection h with h; exact .inl h.symm

namespace Keeps

/-- A character's end at the receiver of a port in its reply window. -/
theorem charEnds {s : State} {p : PortId} (stop : Level) (hp : (s.port p).receiving = true) :
    Keeps s (s.withPort p fun y => y.charEnds stop) :=
  withPort id fun h => Port.phaseFits_charEnds stop h hp

theorem fieldChar (s : State) (p : PortId) (v : Byte) (parity stop : Level) : Keeps s (s.fieldChar p v parity stop) := by
  unfold State.fieldChar
  dsimp only
  split
  · rename_i hx
    have hr : (s.port p).receiving = true := (Bool.and_eq_true _ _ ▸ hx).1
    have hw : ((s.port p).charEnds stop).phase.isWindow = true := (s.port p).receiving_eq_isWindow ▸ hr
    split
    · rename_i y hy
      obtain rfl | ⟨ph, hph, rfl⟩ := Port.takeChar_goesOn hy
      · exact withPort id fun h => Port.phaseFits_charEnds stop h hr
      · exact withPort id fun h => Port.phaseFits_resume (Port.phaseFits_charEnds stop h hr) hw hph
    · refine (charEnds stop hr).trans (endAttempt _ _ ?_)
      rw [State.withPort_port]
      intro hi
      rw [hi] at hw
      cases hw
  · exact refl s

/-- A reply ends, with or without a last character, in a reply window. -/
theorem endWindow {s : State} {p : PortId} (a : Attempt) (r : Report) (hp : (s.port p).phase.isWindow = true) :
    Keeps s (s.endAttempt p a r) :=
  endAttempt a r fun hi => by rw [hi] at hp; cases hp

theorem endWithChar {s : State} {p : PortId} (a : Attempt) (r : Report) (stop : Level)
    (hp : (s.port p).phase.isWindow = true) : Keeps s ((s.withPort p fun y => y.charEnds stop).endAttempt p a r) :=
  (charEnds stop ((s.port p).receiving_eq_isWindow ▸ hp)).trans (endWindow a r (by rw [State.withPort_port]; exact hp))

theorem replyFrameComplete {s t : State} {p : PortId} {rest : List Byte} (h : execReplyFrameComplete p rest s = .next t) :
    Keeps s t := by
  unfold execReplyFrameComplete at h
  split at h
  · rename_i hp
    split at h <;> injection h with h <;> subst h
    · exact endWithChar _ _ _ (by rw [hp]; rfl)
    · exact refl s
  · rename_i hp
    split at h <;> injection h with h <;> subst h
    · exact endWithChar _ _ _ (by rw [hp]; rfl)
    · exact refl s
  all_goals injection h with h; exact h ▸ refl s

theorem replyTimeout {s t : State} {p : PortId} (h : execReplyTimeout p s = .next t) : Keeps s t := by
  unfold execReplyTimeout at h
  split at h
  · rename_i a hp
    have hw : (s.port p).phase.isWindow = true := by rw [hp]; rfl
    split at h <;> injection h with h <;> subst h
    · exact withPort id fun hf => (Port.phaseFits_window_iff rfl).mpr ((Port.phaseFits_window_iff hw).mp hf)
    · exact endWindow _ _ hw
  all_goals injection h with h; exact h ▸ refl s

theorem replyGapExpiry {s t : State} {p : PortId} (h : execReplyGapExpiry p s = .next t) : Keeps s t := by
  unfold execReplyGapExpiry at h
  split at h
  · rename_i hp
    split at h <;> injection h with h <;> subst h
    · exact refl s
    · exact endWindow _ _ (by rw [hp]; rfl)
  · rename_i hp
    split at h <;> injection h with h <;> subst h
    · exact refl s
    · exact endWindow _ _ (by rw [hp]; rfl)
  all_goals injection h with h; exact h ▸ refl s

theorem discardLimitReached {s t : State} {last : LastCharacter} (h : execDiscardLimitReached last s = .next t) :
    Keeps s t := by
  unfold execDiscardLimitReached at h
  split at h
  · rename_i hp
    split at h <;> injection h with h <;> subst h
    · exact endWithChar _ _ _ (by rw [hp]; rfl)
    · exact refl s
  all_goals injection h with h; exact h ▸ refl s

theorem abortedCharacterEnd {s t : State} {p : PortId} (h : execAbortedCharacterEnd p s = .next t) : Keeps s t := by
  unfold execAbortedCharacterEnd at h
  split at h <;> injection h with h <;> subst h
  · rename_i hp; exact withPort id fun hf => Port.phaseFits_turn hf (by simp [hp])
  all_goals exact refl s

end Keeps

@[simp] theorem Port.beginWaiting_settings (p : Port) : p.beginWaiting.settings = p.settings := by
  unfold Port.beginWaiting; split <;> rfl

/-- A port ready after its gap is IDLE, or begins the attempt that waits (R14). -/
theorem Port.phaseFits_ready_beginWaiting {p : Port} (h : p.PhaseFits) (hp : p.phase = .turnaround) :
    p.ready.beginWaiting.PhaseFits := by
  have hr := Port.phaseFits_ready h hp
  unfold Port.beginWaiting
  split
  · exact Port.phaseFits_send _ hr rfl
  · exact hr

/-- A falling level leaves the agreement with the phase: a timing begins in IDLE, a character in a reply window. -/
theorem Port.phaseFits_goesLow {p : Port} (h : p.PhaseFits) (hd : p.rxd = .high) : p.goesLow.PhaseFits := by
  have hb : p.rxBreak = false := by
    cases hb : p.rxBreak with
    | false => rfl
    | true => have := (h.2.2.2 hb).2.1; rw [hd] at this; cases this
  have low : ({ p with rxd := .low } : Port).PhaseFits := ⟨h.1, h.2.1, h.2.2.1, fun hx => by simp [hb] at hx⟩
  have started (hr : p.receiving = true) : ({ p with rxd := .low } : Port).startChar.PhaseFits :=
    Port.phaseFits_startChar low hr hb
  unfold Port.goesLow
  dsimp only
  split
  · rename_i hp
    split
    · exact ⟨by simp [Port.begin, hp], h.2.1, h.2.2.1, fun hx => by simp [Port.begin, hb] at hx⟩
    · exact low
  · rename_i hp
    split
    · exact low
    · exact started (by simp [Port.receiving, hp])
  · rename_i hp
    split
    · exact low
    · exact started (by simp [Port.receiving, hp])
  · rename_i hp
    split
    · exact low
    · exact started (by simp [Port.receiving, hp])
  · exact low
  · exact low

@[simp] theorem Port.goesLow_settings (p : Port) : p.goesLow.settings = p.settings := by
  unfold Port.goesLow; dsimp only; (repeat' split) <;> rfl

@[simp] theorem Port.goesHigh_settings (p : Port) : p.goesHigh.settings = p.settings := by
  unfold Port.goesHigh; dsimp only; (repeat' split) <;> rfl

theorem Port.phaseFits_goesHigh {p : Port} (h : p.PhaseFits) : p.goesHigh.PhaseFits := by
  have high : ({ p with rxd := .high, rxBreak := false } : Port).PhaseFits :=
    ⟨h.1, h.2.1, h.2.2.1, fun hx => by cases hx⟩
  unfold Port.goesHigh
  dsimp only
  split
  · rename_i hp
    have armed : ∀ x : Option Interval,
        ({ p with rxd := .high, rxBreak := false, monitor := .armed, interval := x } : Port).PhaseFits := fun x =>
      ⟨by simp [hp], h.2.1, h.2.2.1, fun hx => by cases hx⟩
    split
    · exact armed none
    · exact armed p.interval
    · exact high
    · exact high
  all_goals exact high

namespace Keeps

theorem turnaroundGapExpiry {s t : State} {p : PortId} (h : execTurnaroundGapExpiry p s = .next t) : Keeps s t := by
  unfold execTurnaroundGapExpiry at h
  split at h <;> injection h with h <;> subst h
  · rename_i hp
    exact (withPort (by rw [Port.beginWaiting_settings]; exact id) fun hf =>
      Port.phaseFits_ready_beginWaiting hf hp).trans (portReady _ _ _)
  all_goals exact refl s

theorem lineLow {s t : State} {p : PortId} (h : execLineLow p s = .next t) : Keeps s t := by
  unfold execLineLow at h
  split at h <;> injection h with h <;> subst h
  · rename_i hd
    exact withPort (by rw [Port.goesLow_settings]; exact id) fun hf => Port.phaseFits_goesLow hf hd
  · exact refl s

theorem lineHigh {s t : State} {p : PortId} (h : execLineHigh p s = .next t) : Keeps s t := by
  unfold execLineHigh at h
  split at h <;> injection h with h <;> subst h
  · exact withPort (by rw [Port.goesHigh_settings]; exact id) Port.phaseFits_goesHigh
  · exact refl s

theorem lineCall (s : State) (e : Engine) (p : PortId) : Keeps s (s.lineCall e p) := by
  unfold State.lineCall; exact ite (raise _ _) (withEngine_quiet rfl rfl rfl rfl)

theorem lineMonitorTimerExpiry {s t : State} {p : PortId} (h : execLineMonitorTimerExpiry p s = .next t) : Keeps s t := by
  unfold execLineMonitorTimerExpiry at h
  split at h <;> injection h with h <;> subst h
  · rename_i hm
    refine (withPort id fun hf => ?_).trans (lineCall _ _ _)
    exact ⟨by simpa [hm] using hf.1, hf.2.1, hf.2.2.1, hf.2.2.2⟩
  · exact refl s

end Keeps

/-! ### Every command, and every step -/

/-- A request command is the arrival of its frame (log entry 1). -/
theorem exec_of_requestFrame {i : Instr} {f : Frame} (h : requestFrame i = some f) (s : State) :
    exec i s = .next (s.receiveFrame f) := by
  cases i <;> cases h <;> rfl

theorem exec_preserves {i : Instr} {s t : State} (h : exec i s = .next t) : Preserves s t := by
  have request : ∀ {f}, requestFrame i = some f → Preserves s t := fun hf => by
    rw [exec_of_requestFrame hf] at h
    injection h with h
    exact h ▸ Preserves.receiveFrame s _
  cases i with
  | requestFrameComplete rest => exact Preserves.requestFrameComplete h
  | hostGapTimerExpiry => exact Preserves.hostGapTimerExpiry h
  | replySent => exact Preserves.replySent h
  | noticeSent => exact Preserves.noticeSent h
  | powerOn l1 l0 => injection h with h; exact h ▸ Preserves.resetWith s l1 l0 .powerOn
  | resetPin l1 l0 => injection h with h; exact h ▸ Preserves.resetWith s l1 l0 .resetPin
  | hostByteReceived v x => injection h with h; exact h ▸ Preserves.hostByte s v x.stop x.returned
  | storeWpAsserted pins => exact (Keeps.storeWpAsserted h).preserves
  | blockEraseComplete erased => exact (Keeps.blockEraseComplete h).preserves
  | eraseTimeout => exact (Keeps.eraseTimeout h).preserves
  | pageProgramComplete how => exact (Keeps.pageProgramComplete h).preserves
  | programTimeout => exact (Keeps.programTimeout h).preserves
  | periodExpiry e => exact (Keeps.periodExpiry h).preserves
  | slotStartTime e => exact (Keeps.slotStartTime h).preserves
  | requestFrameSent p => exact (Keeps.requestFrameSent h).preserves
  | replyTimeout p => exact (Keeps.replyTimeout h).preserves
  | replyFrameComplete p rest => exact (Keeps.replyFrameComplete h).preserves
  | replyGapExpiry p => exact (Keeps.replyGapExpiry h).preserves
  | discardLimitReached last => exact (Keeps.discardLimitReached h).preserves
  | abortedCharacterEnd p => exact (Keeps.abortedCharacterEnd h).preserves
  | turnaroundGapExpiry p => exact (Keeps.turnaroundGapExpiry h).preserves
  | lineLow p => exact (Keeps.lineLow h).preserves
  | lineHigh p => exact (Keeps.lineHigh h).preserves
  | lineMonitorTimerExpiry p => exact (Keeps.lineMonitorTimerExpiry h).preserves
  | fieldCharacterReceived p v x => injection h with h; exact h ▸ (Keeps.fieldChar s p v x.parity x.stop).preserves
  | _ => exact request rfl

/-- A step runs the front command on the rest of the queue, or lets a microsecond pass; either keeps the laws. -/
theorem step_preserves {s t : State} (h : step s = .next t) : Preserves s t := by
  unfold step at h
  split at h
  · injection h with h; exact h ▸ (Keeps.advance s 1).preserves
  · rename_i c rest _
    have popped : Keeps s { s with pending := rest } := Keeps.of_quiet
    exact popped.preserves.trans (exec_preserves h)

/-- Settles O56: every operation keeps the tables record by record (`Keeps`), so every step does. -/
theorem everyStepKeepsTheTables : Obligations.EveryStepKeepsTheTables := by
  intro s t hs h
  rw [State.tablesSound_iff] at hs ⊢
  exact (step_preserves h).tables hs

/-- Settles O58: under sound tables, every operation keeps the store, the ports and the link in agreement. -/
theorem everyStepKeepsStoreLinkAndPorts : Obligations.EveryStepKeepsStoreLinkAndPorts := by
  intro s t ht hs h
  rw [State.tablesSound_iff] at ht
  rw [State.unitsSound_iff] at hs ⊢
  exact (step_preserves h).units ht hs.1 hs.2

end Sys2Proof.Machine
end

section
/-!
The Line Ports' statements (O14, O44, O50 to O54): the settings' requests, characters and replies in a reply window, timers, and the
line monitor.
-/

namespace Sys2Proof.Machine

/-! ### The statements' words and the model's -/

theorem portUser_eq_engineFor (arr : Arrangement) (p : PortId) : portUser arr p = engineFor arr p := by cases arr <;> rfl

theorem EngineState.isStopped_iff (en : EngineState) : en.isStopped = true ↔ en.run = .stopped := decide_eq_true_iff

theorem Port.hears_iff (p : Port) : p.hears = true ↔ p.rxBreak = false ∧ (p.rxChar ≠ none ∨ p.rxd = .high) := by
  simp [Port.hears, Option.isSome_iff_ne_none]

/-! ### PORT-SET and PORT-GET -/

theorem parityOf_eq_none {b : Byte} (h : 2 < b.toNat) : parityOf b = none := by
  have h0 : b ≠ 0 := fun e => by subst e; revert h; decide
  have h1 : b ≠ 1 := fun e => by subst e; revert h; decide
  have h2 : b ≠ 2 := fun e => by subst e; revert h; decide
  rw [parityOf, if_neg h0, if_neg h1, if_neg h2]

theorem stopBitsOf_eq_none {b : Byte} (h : b = 0 ∨ 2 < b.toNat) : stopBitsOf b = none := by
  have h1 : b ≠ 1 := fun e => by subst e; revert h; decide
  have h2 : b ≠ 2 := fun e => by subst e; revert h; decide
  rw [stopBitsOf, if_neg h1, if_neg h2]

/-- A settings record with a value outside its range is none (R1). -/
theorem PortSettings.ofBytes_eq_none {rate parity stop timeout gap : Byte} (h : 8 < rate.toNat ∨ 2 < parity.toNat ∨ stop = 0 ∨
    2 < stop.toNat ∨ 3 < timeout.toNat ∨ gap = 0 ∨ 16 < gap.toNat) :
    PortSettings.ofBytes [rate, parity, stop, timeout, gap] = none := by
  unfold PortSettings.ofBytes
  dsimp only
  split
  · rename_i hr hp hs ht
    refine if_neg fun hg => ?_
    rcases h with h | h | h | h | h | h | h
    · rw [finOf_eq_none h] at hr; cases hr
    · rw [parityOf_eq_none h] at hp; cases hp
    · rw [stopBitsOf_eq_none (.inl h)] at hs; cases hs
    · rw [stopBitsOf_eq_none (.inr h)] at hs; cases hs
    · rw [finOf_eq_none h] at ht; cases ht
    · subst h; exact absurd hg.1 (by decide)
    · omega
  · rfl

/-- PORT-SET with nothing in processing is answered by the ports (R2). -/
theorem exec_portSet {s : State} (hp : s.processing = none) (tag port rate parity stop timeout gap : Byte) :
    let f : Frame := ⟨0x08, tag, [port, rate, parity, stop, timeout, gap]⟩
    let h := (s.inDispatch f).doPortSet port [rate, parity, stop, timeout, gap]
    exec (.portSet tag port rate parity stop timeout gap) s = .next (h.state.placeReply f h.reply s.tx) :=
  congrArg Host.Outcome.next (State.receiveFrame_idle s _ hp (Nat.le_of_ble_eq_true rfl))

theorem exec_portGet {s : State} (hp : s.processing = none) (tag port : Byte) :
    let f : Frame := ⟨0x09, tag, [port]⟩
    let h := (s.inDispatch f).doPortGet port
    exec (.portGet tag port) s = .next (h.state.placeReply f h.reply s.tx) :=
  congrArg Host.Outcome.next (State.receiveFrame_idle s _ hp (Nat.le_of_ble_eq_true rfl))

/-- Settles O14: a settings record is read back as it was written, or is none when a value is out of its range. -/
theorem portIsWrittenAndRead : Obligations.PortIsWrittenAndRead := by
  refine ⟨fun s tag port rate parity stop timeout gap hproc => ⟨fun hbad => ?_, ?_⟩,
    fun s tag port hproc => ⟨fun hbad => ?_, ?_⟩⟩
  · have hnone : sideOf port = none ∨ PortSettings.ofBytes [rate, parity, stop, timeout, gap] = none :=
      hbad.imp sideOf_eq_none PortSettings.ofBytes_eq_none
    have refused : ∀ u : State, u.doPortSet port [rate, parity, stop, timeout, gap] = u.refuse .badValue := fun u => by
      unfold State.doPortSet
      split
      · rename_i h1 h2; rcases hnone with hn | hn <;> simp_all
      · rfl
    rw [exec_portSet hproc, refused]
    exact congrArg Host.Outcome.next (State.inDispatch_placeReply _ _ _)
  · rintro p c rfl rfl rfl rfl rfl rfl h0 h16
    have hc : PortSettings.ofBytes c.toBytes = some c :=
      c.ofBytes_toBytes ⟨Nat.pos_of_ne_zero fun h => h0 (BitVec.eq_of_toNat_eq h), h16⟩
    have accepted : ∀ u : State, u.doPortSet (sideCode p) c.toBytes =
        if (u.engine (portUser u.arrangement p)).isStopped then (u.withPort p fun x => { x with settings := c }).ok []
        else u.refuse .lineRunning := fun u => by
      rw [State.doPortSet, sideOf_code, hc]
    rw [exec_portSet hproc]
    rw [show [byteOf c.rate.val, c.parity.code, c.stopBits.code, byteOf c.replyTimeout.val, c.gap] = c.toBytes from rfl,
      accepted, State.inDispatch_arrangement, State.inDispatch_engine, portUser_eq_engineFor]
    simp only [EngineState.isStopped_iff]
    split
    · exact congrArg Host.Outcome.next (State.placeReply_of_quiet s _ _ (fun u => u.withPort p fun x => { x with settings := c })
        (by cases p <;> rfl) (by simp))
    · exact congrArg Host.Outcome.next (State.inDispatch_placeReply _ _ _)
  · have refused : ∀ u : State, u.doPortGet port = u.refuse .badValue := fun u => by
      rw [State.doPortGet, sideOf_eq_none hbad]
    rw [exec_portGet hproc, refused]
    exact congrArg Host.Outcome.next (State.inDispatch_placeReply _ _ _)
  · rintro p rfl
    rw [exec_portGet hproc, State.doPortGet, sideOf_code]
    refine congrArg Host.Outcome.next ((State.inDispatch_placeReply _ _ _).trans ?_)
    simp only [State.inDispatch_port, State.inDispatch_arrangement, portUser_eq_engineFor]
    rfl

/-! ### Timers and the line monitor -/

/-- An interval has the length that the settings give when it begins (R1). -/
theorem PortSettings.interval_eq (c : PortSettings) (use : IntervalUse) : c.interval use = {
    use := use, rate := c.rate
    bits := 9 + (if c.parity = .none then 0 else 1) + (if c.stopBits = .two then 2 else 1)
    chars := match use with
      | .replyTimeout => if c.replyTimeout = 0 then 2 else if c.replyTimeout = 1 then 4 else if c.replyTimeout = 2 then 16 else 64
      | .turnaround => c.gap.toNat
      | .replyGap => 2
      | .lineCall => 2 } := by
  have hbits : c.format.bits = 9 + (if c.parity = .none then 0 else 1) + (if c.stopBits = .two then 2 else 1) := by
    unfold CharFormat.bits PortSettings.format
    cases c.parity <;> cases c.stopBits <;> rfl
  have htimeout : c.timeoutChars =
      if c.replyTimeout = 0 then 2 else if c.replyTimeout = 1 then 4 else if c.replyTimeout = 2 then 16 else 64 := by
    unfold PortSettings.timeoutChars
    generalize c.replyTimeout = t
    revert t
    decide
  unfold PortSettings.interval
  rw [hbits, htimeout]
  cases use <;> rfl

/-- A port ready after its gap is IDLE with its monitor set by the level, or sends the attempt that waits (R14, R17). -/
theorem Port.ready_beginWaiting (p : Port) : p.ready.beginWaiting = match p.waiting with
    | some a => { p with
        phase := .sending (some a), waiting := none, monitor := .suspended, interval := none
        shifter := some ⟨⟨p.settings.rate, p.settings.parity, p.settings.stopBits⟩, a.request.wire, 0⟩ }
    | none => { p with phase := .idle, interval := none, monitor := if p.rxd = .high then .armed else .waitHigh } := by
  obtain ⟨settings, phase, waiting, monitor, rxd, rxChar, rxBreak, interval, shifter⟩ := p
  cases waiting with
  | some a => rfl
  | none => cases rxd <;> rfl

/-- Settles O53: each timed event by the phase of its port. -/
theorem portTimersMoveThePort : Obligations.PortTimersMoveThePort := by
  refine ⟨fun c use => (c.interval_eq use).trans (by cases use <;> rfl), fun s p => ?_⟩
  refine ⟨fun a h => ?_, fun h => ?_, fun a h => ?_, fun h => ?_, fun a h => ?_, fun h => ?_, fun a n stop h hh => ?_,
    fun stop h => ?_, fun h => ?_, fun h => ?_, fun h => ?_, fun h => ?_⟩
  · show execRequestFrameSent p s = _
    rw [execRequestFrameSent, h]
    rfl
  · show execRequestFrameSent p s = _
    unfold execRequestFrameSent
    split
    · rename_i a hp; exact absurd hp (h a)
    all_goals rfl
  · show execReplyTimeout p s = _
    rw [execReplyTimeout, h]
    simp only [Option.isSome_iff_ne_none]
    split <;> rfl
  · show execReplyTimeout p s = _
    unfold execReplyTimeout
    split
    · rename_i a hp; exact absurd hp (h a)
    all_goals rfl
  · show execReplyGapExpiry p s = _
    obtain ⟨cs, h⟩ | ⟨n, h⟩ := h <;>
      (rw [execReplyGapExpiry, h]
       simp only [Option.isSome_iff_ne_none]
       split <;> rfl)
  · show execReplyGapExpiry p s = _
    unfold execReplyGapExpiry
    split
    · rename_i a cs hp; exact absurd (.inl ⟨a, cs, hp⟩) h
    · rename_i a n hp; exact absurd (.inr ⟨a, n, hp⟩) h
    all_goals rfl
  · show execDiscardLimitReached ⟨p, stop⟩ s = _
    rw [execDiscardLimitReached, h]
    exact if_pos ((s.port p).hears_iff.mpr hh)
  · show execDiscardLimitReached ⟨p, stop⟩ s = _
    unfold execDiscardLimitReached
    split
    · rename_i a n hp
      exact if_neg fun hh => h.elim (fun hn => hn a n hp) fun hn => hn ((s.port p).hears_iff.mp hh)
    all_goals rfl
  · show execAbortedCharacterEnd p s = _
    rw [execAbortedCharacterEnd, h]
    rfl
  · show execAbortedCharacterEnd p s = _
    unfold execAbortedCharacterEnd
    split
    · rename_i hp; exact absurd hp h
    all_goals rfl
  · show execTurnaroundGapExpiry p s = _
    rw [execTurnaroundGapExpiry, h]
    simp only [Port.ready_beginWaiting, State.portReady, State.withPort_engine, portUser_eq_engineFor]
      <;> rfl
  · show execTurnaroundGapExpiry p s = _
    unfold execTurnaroundGapExpiry
    split
    · rename_i hp; exact absurd hp h
    all_goals rfl

/-- A function of a port reads the port as it stands in the state. -/
theorem State.withPort_congr (s : State) (p : PortId) {f g : Port → Port} (h : f (s.port p) = g (s.port p)) :
    s.withPort p f = s.withPort p g := by
  cases p
  · exact congrArg (fun x => ({ s with portA := x } : State)) h
  · exact congrArg (fun x => ({ s with portB := x } : State)) h

/-- Settles O54: a level's change by the phase, and a line call by the engine's run state. -/
theorem lineMonitorCountsCalls : Obligations.LineMonitorCountsCalls := by
  intro s p
  have low : (s.port p).rxd = .high → exec (.lineLow p) s = .next (s.withPort p Port.goesLow) := fun h => if_pos h
  have high : (s.port p).rxd = .low → exec (.lineHigh p) s = .next (s.withPort p Port.goesHigh) := fun h => if_pos h
  refine ⟨fun h => if_neg (by simp [h]), fun h => if_neg (by simp [h]), fun h => ?_, fun h => ?_, fun h => if_neg h,
    fun h => ?_⟩
  · rw [low h]
    refine ⟨fun hp => ?_, fun hp => ?_, fun hw hb => ?_, fun hw hb => ?_⟩
    · refine congrArg Host.Outcome.next (State.withPort_congr s p ?_)
      rw [Port.goesLow, hp]
      dsimp only
      split <;> rfl
    · refine congrArg Host.Outcome.next (State.withPort_congr s p ?_)
      obtain hp | ⟨a, hp⟩ := hp <;> (rw [Port.goesLow, hp]; rfl)
    · refine congrArg Host.Outcome.next (State.withPort_congr s p ?_)
      obtain ⟨a, b, hp⟩ | ⟨a, cs, hp⟩ | ⟨a, n, hp⟩ := hw <;> (rw [Port.goesLow, hp]; simp [hb])
    · refine congrArg Host.Outcome.next (State.withPort_congr s p ?_)
      generalize s.port p = x at hw hb ⊢
      obtain ⟨settings, phase, waiting, monitor, rxd, rxChar, rxBreak, interval, shifter⟩ := x
      obtain ⟨a, b, rfl⟩ | ⟨a, cs, rfl⟩ | ⟨a, n, rfl⟩ := hw
      · subst hb; cases b <;> cases rxChar <;> rfl
      · subst hb; cases rxChar <;> rfl
      · subst hb; cases rxChar <;> rfl
  · rw [high h]
    refine ⟨fun hp => ?_, fun hp => ?_⟩
    · refine congrArg Host.Outcome.next (State.withPort_congr s p ?_)
      rw [Port.goesHigh, hp]
      dsimp only
      cases (s.port p).monitor <;> rfl
    · refine congrArg Host.Outcome.next (State.withPort_congr s p ?_)
      unfold Port.goesHigh
      dsimp only
      split
      · rename_i hi; exact absurd hi hp
      all_goals rfl
  · show execLineMonitorTimerExpiry p s = _
    rw [execLineMonitorTimerExpiry, if_pos h]
    unfold State.lineCall
    simp only [EngineState.isStopped_iff, State.withPort_engine, portUser_eq_engineFor]

end Sys2Proof.Machine
end

section
/-!
The end of an attempt and a reply's classification (O44, O51), and the characters of a reply window (O50, O52).
-/

namespace Sys2Proof.Machine

/-! ### The end of an attempt (R13, R67 to R69) -/

theorem LineOutcome.answered_iff (o : LineOutcome) : o.answered = true ↔ o = .good ∨ o = .busy := by
  cases o <;> simp [LineOutcome.answered]

/-- A port is handed an attempt: it sends it from IDLE, and keeps it waiting otherwise (R8). -/
theorem Port.take_eq (a : Attempt) (p : Port) : p.take a =
    if p.phase = .idle then { p with
      phase := .sending (some a), waiting := none, monitor := .suspended, interval := none
      shifter := some ⟨⟨p.settings.rate, p.settings.parity, p.settings.stopBits⟩, a.request.wire, 0⟩ }
    else { p with waiting := some a } := by
  obtain ⟨settings, phase, waiting, monitor, rxd, rxChar, rxBreak, interval, shifter⟩ := p
  cases phase <;> simp [Port.take, Port.send, PortSettings.format]

theorem State.laterLine_eq (s : State) (i : Fin 64) (p : Line) (o : LineOutcome) : s.laterLine i p o =
    if s.arrangement = .paired ∧ o ≠ .busy ∧ (s.station i).config.alternate = .other ∧
      (s.station i).config.switchOnRetry = true then p.other else p := by
  unfold State.laterLine
  cases s.arrangement with
  | independent => rfl
  | paired => by_cases ho : o = .busy <;> simp [ho]

/-- The report of a port at an engine in transaction: the result is final, or the next attempt is handed on (R67). -/
theorem State.takeReport_inTransaction {s : State} {e : Engine} {t : Transaction} (h : (s.engine e).activity = .inTransaction t)
    (p : PortId) (r : Report) : s.takeReport e p r =
      if r.outcome = .good ∨ t.limit ≤ t.made + 1 then
        s.endTransaction e ((t.record p r s.time).finish r.outcome) r.outcome p
      else s.handAttempt e (t.record p r s.time) (s.laterLine t.subject p r.outcome) := by
  rw [State.takeReport, h]
  rfl

/-- Settles O44: the port turns, and the engine takes the report. -/
theorem attemptEndRetriesOrIsFinal : Obligations.AttemptEndRetriesOrIsFinal := by
  intro s p a rep tr h turned replied tr' final cfg line next
  have hturned : s.withPort p Port.turn = turned := rfl
  have hrecord : tr.record p rep turned.time = tr' := by
    simp only [Transaction.record, LineOutcome.answered_iff, turned, State.withPort_time]
    rfl
  have hline : turned.laterLine tr.subject p rep.outcome = line := by
    simp only [State.laterLine_eq, turned, State.withPort_arrangement, State.withPort_station]
    rfl
  have taken : s.endAttempt p a rep = _ := State.takeReport_inTransaction (s := turned) (by simpa [turned] using h) p rep
  rw [taken, hrecord]
  refine ⟨fun hf => if_pos hf, fun hf => (if_neg hf).trans ?_⟩
  rw [hline, State.handAttempt]
  exact congrArg (State.withPort _ line) (funext fun x => Port.take_eq next x)

/-! ### The classification of a reply (R12) -/

theorem wordBytes_eq_iff (c1 c0 : Byte) (w : Word) : [c1, c0] = wordBytes w ↔ wordOf c1 c0 = w := by
  constructor
  · intro h
    simp only [wordBytes, List.cons.injEq, and_true] at h
    rw [h.1, h.2, wordOf_wordBytes]
  · rintro rfl
    rw [wordBytes_wordOf]

/-- The characters of a whole reply, taken apart (R7). -/
theorem ReplyFrame.ofChars_words (sync echo status count c1 c0 : Byte) (words : List Word) (h : words.length = count.toNat) :
    ReplyFrame.ofChars (sync :: echo :: status :: count :: (wordsBytes words ++ [c1, c0])) =
      some ⟨echo, status, count, wordsBytes words, [c1, c0]⟩ := by
  have hl : (wordsBytes words).length = 2 * count.toNat := by rw [length_wordsBytes, h]
  rw [ReplyFrame.ofChars, if_pos (by rw [List.length_append, hl]; rfl), ← hl, List.take_left, List.drop_left]

/-- A status byte of class 0 to 2, as it is carried (R12, R172). -/
theorem Status.ofByte_eq (b : Byte) (h : b.toNat % 4 ≠ 3) : Status.ofByte b =
    ⟨if b.toNat % 4 = 1 then 1 else if b.toNat % 4 = 2 then 2 else 0, b.getLsbD 2, b.getLsbD 3⟩ := by
  have hcls : (if hc : statusClass b < 3 then (⟨statusClass b, hc⟩ : Fin 3) else 0) =
      if b.toNat % 4 = 1 then 1 else if b.toNat % 4 = 2 then 2 else 0 := by
    have hlt : statusClass b < 3 := by unfold statusClass; omega
    rw [dif_pos hlt]
    refine Fin.ext ?_
    show b.toNat % 4 = _
    split
    · assumption
    · split
      · assumption
      · show b.toNat % 4 = 0; omega
  rw [Status.ofByte, hcls]
  rfl

/-- Settles O51: the checks of R12 one behind the other. -/
theorem replyIsClassifiedInOrder : Obligations.ReplyIsClassifiedInOrder := by
  intro a echo status count c1 c0 words hw covered cls bits
  have hchars : 0x5A :: (covered ++ [c1, c0]) = 0x5A :: echo :: status :: count :: (wordsBytes words ++ [c1, c0]) := by
    simp [covered]
  have hcheck : [c1, c0] ≠ wordBytes (frameCheck covered) ↔ wordOf c1 c0 ≠ frameCheck covered :=
    not_congr (wordBytes_eq_iff _ _ _)
  rw [hchars, Report.ofReply, ReplyFrame.ofChars_words _ _ _ _ _ _ _ hw]
  dsimp only
  have hclassify : classify a ⟨echo, status, count, wordsBytes words, [c1, c0]⟩ =
      if wordOf c1 c0 ≠ frameCheck covered then .garbled
      else if echo ≠ a.request.address then .wrongStation
      else if cls = 3 then .garbled
      else if status.getLsbD 2 then if count = 0 then .busy else .garbled
      else if count.toNat ≠ a.expected then .garbled
      else .good := by
    simp only [← hcheck]
    rfl
  rw [hclassify]
  by_cases h1 : wordOf c1 c0 = frameCheck covered
  case neg => simp only [ne_eq, h1, not_false_eq_true, if_true]; rfl
  by_cases h2 : echo = a.request.address
  case neg => simp only [ne_eq, h1, h2, not_true_eq_false, not_false_eq_true, if_true, if_false]; rfl
  by_cases h3 : cls = 3
  case pos => simp only [ne_eq, h1, h2, h3, not_true_eq_false, if_true, if_false]; rfl
  have hbits : Status.ofByte status = bits := Status.ofByte_eq status h3
  have hwords : (wordsOf (wordsBytes words)).getD [] = words := by rw [wordsOf_wordsBytes]; rfl
  by_cases h4 : status.getLsbD 2 = true
  · by_cases h5 : count = 0
    · simp only [ne_eq, h1, h2, h3, h4, h5, not_true_eq_false, and_self, if_true, if_false, ← hbits]
    · simp only [ne_eq, h1, h2, h3, h4, h5, not_true_eq_false, and_false, if_true, if_false]; rfl
  by_cases h6 : count.toNat = a.expected
  · simp only [ne_eq, h1, h2, h3, h4, h6, not_true_eq_false, Bool.false_eq_true, false_and, if_false, hwords, ← hbits]
  · simp only [ne_eq, h1, h2, h3, h4, h6, not_true_eq_false, Bool.false_eq_true, not_false_eq_true, false_and, if_false, if_true]; rfl

end Sys2Proof.Machine
end

section
/-!
The characters of a reply window (O50, O52).
-/

namespace Sys2Proof.Machine

/-! ### A character at a receiver (R5) -/

/-- The format of a character with no settings of its own yet. -/
theorem Port.rxFormat_eq (p : Port) : p.rxFormat = match p.rxChar with
    | some f => f
    | none => ⟨p.settings.rate, p.settings.parity, p.settings.stopBits⟩ := by
  unfold Port.rxFormat
  cases p.rxChar <;> rfl

theorem levelOf_eq_iff (l : Level) (b : Prop) [Decidable b] : l = levelOf (decide b) ↔ ((l = .high) = b) := by
  rw [eq_iff_iff]
  by_cases h : b <;> cases l <;> simp [levelOf, h]

/-- A character is clean with a high stop bit and the parity bit it should have (R5). -/
theorem CharFormat.isClean_eq (f : CharFormat) (v : Byte) (parity stop : Level) :
    f.isClean v parity stop = (decide (stop = .high) && match f.parity with
      | .none => true
      | .even => decide ((parity = .high) = (([0, 1, 2, 3, 4, 5, 6, 7].countP fun k => v.getLsbD k) % 2 = 1))
      | .odd => decide ((parity = .high) = (([0, 1, 2, 3, 4, 5, 6, 7].countP fun k => v.getLsbD k) % 2 = 0))) := by
  unfold CharFormat.isClean Parity.bit
  refine congrArg _ ?_
  cases f.parity with
  | none => rfl
  | even => exact decide_eq_decide.mpr (levelOf_eq_iff parity (onesOf v % 2 = 1))
  | odd => exact decide_eq_decide.mpr (levelOf_eq_iff parity (onesOf v % 2 = 0))

section
variable {s : State} {p : PortId} {v : Byte} {parity stop : Level}

/-- A port that is not in a reply window, or whose line has stayed low, takes no character. -/
theorem State.fieldChar_of_not (h : ((s.port p).receiving && (s.port p).hears) = false) :
    s.fieldChar p v parity stop = s := by
  rw [State.fieldChar, h]
  rfl

theorem State.fieldChar_goesOn {y : Port} (hr : (s.port p).receiving = true) (hh : (s.port p).hears = true)
    (h : ((s.port p).charEnds stop).takeChar v ((s.port p).rxFormat.isClean v parity stop) = .goesOn y) :
    s.fieldChar p v parity stop = s.withPort p fun _ => y := by
  rw [State.fieldChar, hr, hh]
  rw [Bool.and_true, if_pos rfl, h]

theorem State.fieldChar_ends {a : Attempt} {r : Report} (hr : (s.port p).receiving = true) (hh : (s.port p).hears = true)
    (h : ((s.port p).charEnds stop).takeChar v ((s.port p).rxFormat.isClean v parity stop) = .ends a r) :
    s.fieldChar p v parity stop = (s.withPort p fun y => y.charEnds stop).endAttempt p a r := by
  rw [State.fieldChar, hr, hh]
  rw [Bool.and_true, if_pos rfl, h]

end

/-! ### What a character does by the phase (R9 to R11) -/

section
variable {p : Port} {a : Attempt}

theorem Port.takeChar_awaiting {expired : Bool} (h : p.phase = .awaiting a expired) (v : Byte) (clean : Bool) :
    p.takeChar v clean =
      if v = 0x5A ∧ clean = true then .goesOn (p.resume (.receiving a [v]))
      else if expired then .ends a (.bare .noReply) else .goesOn p := by
  rw [Port.takeChar, h]

theorem Port.takeChar_receiving {chars : List Byte} (h : p.phase = .receiving a chars) (v : Byte) (clean : Bool) :
    p.takeChar v clean = if clean then p.receive a (chars ++ [v]) else p.discard a (chars.length + 1) := by
  rw [Port.takeChar, h]

theorem Port.takeChar_discarding {n : Nat} (h : p.phase = .discarding a n) (v : Byte) (clean : Bool) :
    p.takeChar v clean = p.discard a (n + 1) := by
  rw [Port.takeChar, h]

end

/-- Settles O50: a character by the phase of its port. -/
theorem replyWindowTakesCharacters : Obligations.ReplyWindowTakesCharacters := by
  intro s p v parity stop c x hears format ones agrees clean after gap ends discards
  have hclean : x.rxFormat.isClean v parity stop = clean := by rw [CharFormat.isClean_eq, Port.rxFormat_eq] <;> rfl
  have hhears : hears ↔ x.hears = true := x.hears_iff.symm
  have goesOn : ∀ {f : Port → Port}, x.receiving = true → hears → (x.charEnds stop).takeChar v clean = .goesOn (f x) →
      exec c s = .next (s.withPort p f) := fun hr hh h =>
    congrArg Host.Outcome.next ((State.fieldChar_goesOn hr (hhears.mp hh) (hclean ▸ h)).trans (State.withPort_congr s p rfl))
  have final : ∀ {a r}, x.receiving = true → hears → (x.charEnds stop).takeChar v clean = .ends a r →
      exec c s = .next (ends a r) := fun hr hh h =>
    congrArg Host.Outcome.next (State.fieldChar_ends hr (hhears.mp hh) (hclean ▸ h))
  have quiet : (x.receiving && x.hears) = false → exec c s = .next s := fun h =>
    congrArg Host.Outcome.next (State.fieldChar_of_not h)
  have discard : ∀ {a n}, x.receiving = true → hears → (x.charEnds stop).takeChar v clean = (x.charEnds stop).discard a n →
      exec c s = .next (discards a n) := fun {a n} hr hh h => by
    by_cases hn : 38 ≤ n
    · exact (final hr hh (h.trans (if_pos hn))).trans (congrArg Host.Outcome.next (if_pos hn).symm)
    · refine Eq.trans ?_ (congrArg Host.Outcome.next (if_neg hn).symm)
      exact goesOn (f := fun y => { after y with phase := .discarding a n, interval := gap y }) hr hh (h.trans (if_neg hn))
  refine ⟨fun hp => ?_, fun hh => ?_, fun a expired hh hp => ?_, fun a chars hh hp => ?_, fun a n hh hp => ?_⟩
  · refine quiet ?_
    obtain hp | hp | ⟨a, hp⟩ := hp <;> (rw [Port.receiving, hp]; rfl)
  · refine quiet ?_
    rw [hhears, Bool.not_eq_true] at hh
    rw [hh, Bool.and_false]
  · have hr : x.receiving = true := by rw [Port.receiving, hp]
    have took := Port.takeChar_awaiting (p := x.charEnds stop) hp v clean
    by_cases h1 : v = 0x5A ∧ clean = true
    · rw [if_pos h1] at took ⊢
      exact goesOn (f := fun y => { after y with phase := .receiving a [v], interval := gap y }) hr hh took
    rw [if_neg h1] at took ⊢
    cases expired with
    | true => exact final hr hh took
    | false => exact goesOn hr hh took
  · have hr : x.receiving = true := by rw [Port.receiving, hp]
    have took := Port.takeChar_receiving (p := x.charEnds stop) hp v clean
    have hlen : (chars ++ [v]).length = chars.length + 1 := List.length_append
    intro all count
    by_cases hc : clean = true
    case neg =>
      rw [if_neg hc, ← hlen] at took
      rw [if_pos (.inl (Bool.not_eq_true _ ▸ hc))]
      exact discard hr hh took
    rw [if_pos hc, Port.receive] at took
    by_cases h1 : 4 ≤ all.length ∧ 16 < count
    · rw [if_pos h1] at took
      rw [if_pos (.inr h1)]
      exact discard hr hh took
    rw [if_neg h1] at took
    rw [if_neg (by rintro (h | h); exacts [absurd hc (h ▸ Bool.false_ne_true), h1 h])]
    by_cases h2 : 4 ≤ all.length ∧ all.length = 6 + 2 * count
    · rw [if_pos h2] at took ⊢
      exact final hr hh took
    · rw [if_neg h2] at took ⊢
      exact goesOn (f := fun y => { after y with phase := .receiving a all, interval := gap y }) hr hh took
  · have hr : x.receiving = true := by rw [Port.receiving, hp]
    exact discard hr hh (Port.takeChar_discarding (p := x.charEnds stop) hp v clean)

end Sys2Proof.Machine
end

section
/-!
A whole reply as its characters (O52).
-/

namespace Sys2Proof.Machine

/-- The level that the parity bit of a clean character has; NONE looks at none. -/
def CharFormat.parityLevel (f : CharFormat) (v : Byte) : Level := ((f.parity.bit v).map levelOf).getD .high

/-- A character that arrives clean at a port, begun in a format. -/
def cleanChar (p : PortId) (f : CharFormat) (v : Byte) : Instr := .fieldCharacterReceived p v ⟨f.parityLevel v, .high⟩

/-- The characters since the sync make a whole reply (R7, R10). -/
def WholeReply (all : List Byte) : Prop :=
  4 ≤ all.length ∧ (all.getD 3 0).toNat ≤ 16 ∧ all.length = 6 + 2 * (all.getD 3 0).toNat

/-- A port that takes the next characters of a reply: in RECEIVING, or in AWAITING with none as yet. -/
def PortPhase.Gathers (ph : PortPhase) (a : Attempt) (chars : List Byte) : Prop :=
  ph = .receiving a chars ∧ chars ≠ [] ∨ (∃ expired, ph = .awaiting a expired) ∧ chars = []

theorem CharFormat.parityLevel_eq (f : CharFormat) (v : Byte) : f.parityLevel v = match f.parity with
    | .none => .high
    | .even => if ([0, 1, 2, 3, 4, 5, 6, 7].countP fun k => v.getLsbD k) % 2 = 1 then .high else .low
    | .odd => if ([0, 1, 2, 3, 4, 5, 6, 7].countP fun k => v.getLsbD k) % 2 = 0 then .high else .low := by
  have level : ∀ (q : Prop) [Decidable q], levelOf (decide q) = if q then .high else .low := fun q _ => by
    by_cases h : q <;> simp [levelOf, h]
  unfold CharFormat.parityLevel Parity.bit
  cases f.parity with
  | none => rfl
  | even => exact level (onesOf v % 2 = 1)
  | odd => exact level (onesOf v % 2 = 0)

/-- A character with the parity bit that it should have is clean. -/
theorem CharFormat.isClean_parityLevel (f : CharFormat) (v : Byte) : f.isClean v (f.parityLevel v) .high = true := by
  unfold CharFormat.isClean CharFormat.parityLevel
  cases f.parity.bit v <;> simp

theorem PortPhase.Gathers.receiving {x : Port} {a : Attempt} {chars : List Byte} (h : x.phase.Gathers a chars) :
    x.receiving = true := by
  obtain ⟨hp, -⟩ | ⟨⟨expired, hp⟩, -⟩ := h <;> rw [Port.receiving, hp]

/-- A reply that is not yet whole is not over-long, and its length is not yet reached. -/
theorem WholeReply.not_ended_of_front {front rest : List Byte} (h : WholeReply (front ++ rest)) (hr : rest ≠ []) :
    ¬(4 ≤ front.length ∧ 16 < (front.getD 3 0).toNat) ∧
    ¬(4 ≤ front.length ∧ front.length = 6 + 2 * (front.getD 3 0).toNat) := by
  obtain ⟨-, hcount, hlen⟩ := h
  have hpos := List.length_pos_of_ne_nil hr
  rw [List.length_append] at hlen
  have same : 4 ≤ front.length → (front ++ rest).getD 3 0 = front.getD 3 0 := fun h4 => List.getD_append _ _ _ _ h4
  refine ⟨fun ⟨h4, hbig⟩ => ?_, fun ⟨h4, heq⟩ => ?_⟩
  · rw [same h4] at hcount; omega
  · rw [same h4] at hlen; omega

/-- A clean character before the last of a reply: the port gathers it and goes on (R10). -/
theorem Port.takeChar_gathers {x : Port} {a : Attempt} {chars rest : List Byte} {v : Byte} (hg : x.phase.Gathers a chars)
    (hsync : chars = [] → v = 0x5A) (hw : WholeReply ((chars ++ [v]) ++ rest)) (hr : rest ≠ []) :
    x.takeChar v true = .goesOn (x.resume (.receiving a (chars ++ [v]))) := by
  obtain ⟨hlong, hfull⟩ := hw.not_ended_of_front hr
  obtain ⟨hp, -⟩ | ⟨⟨expired, hp⟩, hnil⟩ := hg
  · rw [Port.takeChar_receiving hp, if_pos rfl, Port.receive, if_neg hlong, if_neg hfull]
  · rw [Port.takeChar_awaiting hp, if_pos ⟨hsync hnil, rfl⟩, hnil]
    rfl

/-- The last clean character of a reply ends the attempt by its classification (R10, R12). -/
theorem Port.takeChar_completes {x : Port} {a : Attempt} {chars : List Byte} {v : Byte} (hg : x.phase.Gathers a chars)
    (hw : WholeReply (chars ++ [v])) : x.takeChar v true = .ends a (.ofReply a (chars ++ [v])) := by
  obtain ⟨hlen, hcount, hfull⟩ := hw
  obtain ⟨hp, -⟩ | ⟨-, rfl⟩ := hg
  · rw [Port.takeChar_receiving hp, if_pos rfl, Port.receive, if_neg (fun h => by omega), if_pos ⟨hlen, hfull⟩]
  · exact absurd hlen (by decide : ¬4 ≤ 1)

/-- An attempt's end forgets what its port had gathered (R14). -/
theorem State.endAttempt_resume (s : State) (p : PortId) (ph : PortPhase) (a : Attempt) (r : Report) :
    ((s.withPort p fun x => (x.charEnds .high).resume ph).withPort p fun x => x.charEnds .high).endAttempt p a r =
      (s.withPort p fun x => x.charEnds .high).endAttempt p a r := by
  cases p <;> rfl

/-- Clean characters up to the last of a reply, one by one. -/
theorem runAll_cleanReply {p : PortId} {a : Attempt} {more : List Byte} : ∀ {s : State} {chars : List Byte} {first : Byte},
    (s.port p).hears = true → (s.port p).phase.Gathers a chars → (chars = [] → first = 0x5A) →
    WholeReply (chars ++ first :: more) →
    runAll (cleanChar p (s.port p).rxFormat first :: more.map (cleanChar p (s.port p).settings.format)) s =
      .next ((s.withPort p fun x => x.charEnds .high).endAttempt p a (.ofReply a (chars ++ first :: more))) := by
  induction more with
  | nil =>
    intro s chars first hh hg _ hw
    have ended : s.fieldChar p first ((s.port p).rxFormat.parityLevel first) .high = _ :=
      State.fieldChar_ends hg.receiving hh (by
        rw [CharFormat.isClean_parityLevel]
        exact Port.takeChar_completes (x := (s.port p).charEnds .high) hg hw)
    exact congrArg Host.Outcome.next ended
  | cons next more ih =>
    intro s chars first hh hg hsync hw
    rw [List.append_cons] at hw ⊢
    have gathered : s.fieldChar p first ((s.port p).rxFormat.parityLevel first) .high =
        s.withPort p fun x => (x.charEnds .high).resume (.receiving a (chars ++ [first])) :=
      (State.fieldChar_goesOn hg.receiving hh (by
        rw [CharFormat.isClean_parityLevel]
        exact Port.takeChar_gathers (x := (s.port p).charEnds .high) hg hsync hw (List.cons_ne_nil _ _))).trans
        (State.withPort_congr s p rfl)
    have rest := ih (s := s.fieldChar p first ((s.port p).rxFormat.parityLevel first) .high) (chars := chars ++ [first])
      (first := next) (by rw [gathered, State.withPort_port]; rfl)
      (by rw [gathered, State.withPort_port]; exact .inl ⟨rfl, List.append_ne_nil_of_right_ne_nil _ (List.cons_ne_nil _ _)⟩)
      (fun h => absurd h (List.append_ne_nil_of_right_ne_nil _ (List.cons_ne_nil _ _))) hw
    rw [gathered, State.withPort_port, State.endAttempt_resume] at rest
    rw [← rest, ← gathered]
    rfl

theorem completesReply_iff {chars rest : List Byte} : completesReply chars rest = true ↔ rest ≠ [] ∧ WholeReply (chars ++ rest) := by
  simp [completesReply, WholeReply, and_assoc]

/-- REPLY_FRAME_COMPLETE at a port that takes the rest of the reply. -/
theorem exec_replyFrameComplete {s : State} {p : PortId} {a : Attempt} {chars rest : List Byte} (hh : (s.port p).hears = true)
    (hg : (s.port p).phase.Gathers a chars) (hsync : chars = [] → rest.headD 0 = 0x5A) (hc : completesReply chars rest = true) :
    exec (.replyFrameComplete p rest) s =
      .next ((s.withPort p fun x => x.charEnds .high).endAttempt p a (.ofReply a (chars ++ rest))) := by
  show execReplyFrameComplete p rest s = _
  unfold execReplyFrameComplete
  obtain ⟨hp, -⟩ | ⟨⟨expired, hp⟩, rfl⟩ := hg
  · rw [hp]
    exact if_pos (by rw [hh, hc]; rfl)
  · rw [hp]
    exact if_pos (by rw [hh, hc, hsync rfl]; rfl)

/-- A reply at a port whose line has stayed low. -/
theorem exec_replyFrameComplete_deaf {s : State} {p : PortId} (h : (s.port p).hears = false) (rest : List Byte) :
    exec (.replyFrameComplete p rest) s = .next s := by
  show execReplyFrameComplete p rest s = _
  unfold execReplyFrameComplete
  rw [h]
  split <;> rfl

/-- Settles O52, by the characters one after another. -/
theorem replyFrameIsItsCharacters : Obligations.ReplyFrameIsItsCharacters := by
  intro s p a chars first more x rest hears settled begun parity all
  have hhears : hears ↔ x.hears = true := x.hears_iff.symm
  refine ⟨fun hh => exec_replyFrameComplete_deaf (by rw [hhears, Bool.not_eq_true] at hh; exact hh) rest, fun hp => ?_,
    fun hh hph h4 h16 hlen => ?_⟩
  · show execReplyFrameComplete p rest s = _
    unfold execReplyFrameComplete
    obtain hp | hp | ⟨b, hp⟩ | ⟨b, n, hp⟩ := hp <;> rw [hp]
  · have hw : WholeReply (chars ++ first :: more) := ⟨h4, h16, hlen⟩
    have hg : x.phase.Gathers a chars := hph.imp id fun h => ⟨h.1, h.2.1⟩
    have hsync : chars = [] → first = 0x5A := fun hn => hph.elim (fun h => absurd hn h.2) fun h => h.2.2
    have frame := exec_replyFrameComplete (rest := rest) (hhears.mp hh) hg hsync
      (completesReply_iff.mpr ⟨List.cons_ne_nil first more, hw⟩)
    have chain := runAll_cleanReply (hhears.mp hh) hg hsync hw
    have hparity : ∀ f v, parity f v = f.parityLevel v := fun f v => (f.parityLevel_eq v).symm
    have hbegun : begun = x.rxFormat := x.rxFormat_eq.symm
    refine ⟨frame.trans (chain.symm.trans ?_), frame⟩
    simp only [hparity, hbegun] <;> rfl

end Sys2Proof.Machine
end

section
/-!
The fields of the frames and the levels of the lines (O9).
-/

namespace Sys2Proof.Machine

/-! ### The frame check and the byte order (R6) -/

theorem crcBit_eq (r : Word) (b : Bool) : crcBit r b = if b = r.getLsbD 15 then r <<< 1 else (r <<< 1) ^^^ 0x8005 := by
  unfold crcBit
  rw [BitVec.msb_eq_getLsbD_last]
  cases b <;> cases r.getLsbD 15 <;> rfl

/-- The check over bytes is the check over their bits, one byte after another. -/
theorem frameCheck_eq_foldl_bits (covered : List Byte) : frameCheck covered =
    (covered.flatMap fun b => [7, 6, 5, 4, 3, 2, 1, 0].map fun k => b.getLsbD k).foldl crcBit 0xFFFF := by
  unfold frameCheck
  rw [List.foldl_flatMap]
  rfl

theorem extractLsb'_eq_ofNat_div {w : Nat} (x : BitVec w) (k : Nat) : x.extractLsb' k 8 = BitVec.ofNat 8 (x.toNat / 2 ^ k) := by
  rw [BitVec.extractLsb', Nat.shiftRight_eq_div_pow]

theorem wordBytes_eq (w : Word) : wordBytes w = [BitVec.ofNat 8 (w.toNat / 256), BitVec.ofNat 8 w.toNat] := by
  simp only [wordBytes, extractLsb'_eq_ofNat_div, Nat.reducePow, Nat.div_one]

theorem stampBytes_eq (t : Stamp) : stampBytes t = [BitVec.ofNat 8 (t.toNat / 16777216), BitVec.ofNat 8 (t.toNat / 65536),
    BitVec.ofNat 8 (t.toNat / 256), BitVec.ofNat 8 t.toNat] := by
  simp only [stampBytes, extractLsb'_eq_ofNat_div, Nat.reducePow, Nat.div_one]

theorem flag_decide (q : Prop) [Decidable q] (w : Nat) : flag (decide q) w = if q then w else 0 := by
  simp only [flag, decide_eq_true_eq]

theorem StationConfig.flags_eq (c : StationConfig) : c.flags = BitVec.ofNat 8 ((if c.enabled then 1 else 0) +
    (if c.home = .b then 2 else 0) + (if c.alternate = .other then 4 else 0) + (if c.mode = .descriptor then 8 else 0) +
    (if c.switchOnRetry then 16 else 0) + (if c.sweepMember then 32 else 0)) := by
  unfold StationConfig.flags
  simp only [flag_decide]
  rfl

/-! ### Characters (R4) -/

/-- A character has as many bit times as its format gives (R1, R4). -/
theorem CharFormat.length_levels (f : CharFormat) (c : Byte) : (f.levels c).length = f.bits := by
  obtain ⟨rate, parity, stop⟩ := f
  cases parity <;> cases stop <;> rfl

theorem CharFormat.bitRate_eq (f : CharFormat) : f.bitRate = match f.rate with
    | 0 => 1200
    | 1 => 2400
    | 2 => 4800
    | 3 => 9600
    | 4 => 19200
    | 5 => 38400
    | 6 => 57600
    | 7 => 115200
    | 8 => 230400 := by
  unfold CharFormat.bitRate
  generalize f.rate = r
  revert r
  decide

theorem StopBits.replicate_high (b : StopBits) : List.replicate b.count Level.high = if b = .two then [.high, .high] else [.high] := by
  cases b <;> rfl

/-- With its parity bit a character has an even number of ones under EVEN, and an odd one under ODD (R4). -/
theorem Parity.bit_ones (c : Byte) {p : Parity} (h : p ≠ .none) : ∃ b, p.bit c = some b ∧
    (onesOf c + if b then 1 else 0) % 2 = if p = .odd then 1 else 0 := by
  cases p with
  | none => exact absurd rfl h
  | even => exact ⟨_, rfl, by by_cases h : onesOf c % 2 = 1 <;> simp [h] <;> omega⟩
  | odd => exact ⟨_, rfl, by by_cases h : onesOf c % 2 = 0 <;> simp [h] <;> omega⟩

/-! ### The transmitter of a port (R4, R15) -/

/-- Within its bit times a character is the one that shifts. -/
theorem Shifter.index_eq {x : Shifter} {k : Nat} (hk : k < x.chars.length) (hlo : k * x.format.bits ≤ x.bitTime)
    (hhi : x.bitTime < (k + 1) * x.format.bits) : x.index = k := by
  have hdiv : x.bitTime / x.format.bits = k := Nat.div_eq_of_lt_le hlo hhi
  rw [Shifter.index, hdiv]
  omega

theorem Port.de_iff (p : Port) : p.de = true ↔ ∃ a, p.phase = .sending a := by
  unfold Port.de
  cases p.phase <;> simp

/-! ### The codes and the notices (11.2, 11.5) -/

/-- Settles O9: the fields by their definitions, and the check, the characters and the shifting byte by the lemmas above. -/
theorem framesCarryTheirFields : Obligations.FramesCarryTheirFields := by
  unfold Obligations.FramesCarryTheirFields
  intro bit side last pollCode levelFor
  refine ⟨fun covered => ?_, wordBytes_eq, stampBytes_eq, fun f => rfl, fun f r => rfl, rfl, ?_, ?_, ?_, fun q => ?_, fun f c => ?_,
    fun f c => ⟨f.length_levels c, f.bitRate_eq⟩, fun p => ?_, fun c => rfl, fun s => ?_, rfl, rfl, rfl, rfl⟩
  · rw [frameCheck_eq_foldl_bits]
    exact congrArg (fun f => List.foldl f _ _) (funext fun r => funext fun b => crcBit_eq r b)
  · exact ⟨rfl, rfl, rfl, rfl, fun m => rfl, rfl, fun t p => rfl, fun n x d q => rfl, rfl, rfl, rfl, rfl, rfl, rfl,
      fun w a x cs k => rfl, rfl, rfl, rfl, rfl, rfl, fun op k m p x y => rfl, rfl, rfl⟩
  · exact ⟨fun n => rfl, fun n => rfl, fun ws => rfl, fun x => rfl, fun x => rfl, StationConfig.flags_eq⟩
  · intro n t
    cases n with
    | started cause source image arr a b =>
      cases cause <;> cases source <;> cases image <;> cases arr <;> cases a <;> cases b <;> rfl
    | demandResult tag e i k o attempts x data => cases e <;> cases k <;> cases o <;> rfl
    | escalation i level cls mode origin count service =>
      cases mode <;> (rcases origin with _ | o <;> [rfl; (cases o <;> rfl)])
    | pairFlipped p d cause e h sequence miss capture =>
      cases d <;> cases cause <;> cases e <;> cases h <;> cases miss <;> rfl
    | stationState i why health line x => cases why <;> cases health <;> cases line <;> rfl
    | cycleReport e cycle bank k => cases e <;> cases bank <;> rfl
    | lineStopped e mode cycle => cases e <;> cases mode <;> rfl
    | lineCall e p => cases e <;> cases p <;> rfl
    | storeResult save outcome image =>
      cases image <;> (cases outcome with
        | cancelled step byPin => cases byPin <;> rfl
        | _ => rfl)
  · obtain ⟨address, kind, point, count, data⟩ := q
    cases kind <;> rfl
  · refine ⟨(f.parity.bit c).toList, ?_, fun h => by rw [h]; rfl, fun h => ?_⟩
    · rw [CharFormat.levels, f.stopBits.replicate_high]
      cases f.parity.bit c <;> rfl
    · obtain ⟨b, hb, hones⟩ := Parity.bit_ones c h
      exact ⟨b, by rw [hb]; rfl, hones⟩
  · refine ⟨fun h => by rw [Port.txd, h], p.de_iff, fun x hx => ⟨by rw [Port.txd, hx]; rfl, fun k hk hlo hhi => ?_⟩⟩
    have hi := Shifter.index_eq hk hlo hhi
    exact ⟨by rw [Shifter.shifting, hi], by rw [Shifter.held, hi], by rw [Shifter.cut, hi]⟩
  · refine ⟨fun h => by rw [State.hlTxd, h], fun x hx => ?_⟩
    obtain ⟨content, elapsed⟩ := x
    rw [State.hlTxd, hx]
    cases content <;> rfl

end Sys2Proof.Machine
end

section
/-!
A reset on a region that holds no image to apply (O33).
-/

namespace Sys2Proof.Machine

/-- The state of a port after reset, in the statement's values (R1, R16). -/
theorem Port.reset_eq (rxd : Level) : Port.reset rxd = {
    settings := { rate := 3, parity := .even, stopBits := .one, replyTimeout := 1, gap := 3 }
    phase := .idle, waiting := none, monitor := if rxd = .high then .armed else .waitHigh, rxd := rxd, rxChar := none
    rxBreak := false, interval := none, shifter := none } := by
  cases rxd <;> rfl

theorem Pair.init_eq (d : Direction) : Pair.init d = {
    direction := d, working := .zero, hostState := if d = .capture then .released else .editing, sequence := 0, miss := false
    flipStamp := 0, captureStamp := 0, half0 := Vector.replicate 128 0, half1 := Vector.replicate 128 0 } := by
  cases d <;> rfl

/-- What a part is after a reset on a region with no image to apply: its reset values, the pins and the region kept, and
STARTED begun (R159, R167, R170). -/
def State.afterReset (s : State) (cause : ResetCause) (source : StartSource) : State :=
  { s.resetBlocks with
    startSource := source
    tx := some ⟨.notice ⟨.started cause source .invalid .independent false false, 0⟩, 0⟩ }

/-- STARTED finds a free transmitter and an empty queue, and begins at once (R151, R170). -/
theorem State.fullReset_of_none {s : State} {source : StartSource} (h : s.region.check = (source, none)) (cause : ResetCause) :
    s.fullReset cause = s.afterReset cause source := by
  have hregion : s.resetBlocks.region.check = (source, none) := h
  rw [State.fullReset, State.startUp_of_none hregion]
  rfl

/-- The reply of RESTART is sent, and the reset is taken (R158). -/
theorem State.replyEnds_restart {s : State} {tag : Byte} (h : s.processing = some ⟨0x03, tag, []⟩) :
    s.replyEnds = s.fullReset .restart := by
  rw [State.replyEnds, h]
  rfl

/-- Settles O33: the reset values by their definitions, and the three causes by one reset. -/
theorem resetWithoutAnImage : Obligations.ResetWithoutAnImage := by
  unfold Obligations.ResetWithoutAnImage
  intro port bank none7 engine station pair power
  refine ⟨rfl, rfl, Port.reset_eq, Pair.init_eq, ?_⟩
  intro s l1 l0 source tag r us h after
  have reset : ∀ (u : State) (cause : ResetCause) (x1 x0 : Level), u.resetBlocks =
      ({ s with lr1 := x1, lr0 := x0 } : State).resetBlocks → u.region = s.region →
      u.fullReset cause = after cause x1 x0 := by
    intro u cause x1 x0 hu hr
    rw [State.fullReset_of_none (hr ▸ h), State.afterReset, hu, State.resetBlocks, Port.reset_eq, Port.reset_eq]
    rfl
  refine ⟨congrArg Host.Outcome.next (reset _ _ _ _ rfl rfl), congrArg Host.Outcome.next (reset _ _ _ _ rfl rfl), fun htx hproc => ?_⟩
  show execReplySent s = _
  rw [execReplySent, htx]
  exact congrArg Host.Outcome.next ((State.replyEnds_restart hproc).trans (reset _ _ _ _ rfl rfl))

end Sys2Proof.Machine
end

section
/-!
What a transaction's results leave alone, and what they make of the subject's record: the layer beneath the statements on
transactions (O39, O55).
-/

namespace Sys2Proof.Machine

/-! ### Operations on the notices alone -/

/-- The engines, the ports and the records of the tables are the same. -/
structure SameRecords (s t : State) : Prop where
  engine : ∀ e, t.engine e = s.engine e
  port : ∀ p, t.port p = s.port p
  station : ∀ i, t.station i = s.station i
  attn : ∀ i, t.attn i = s.attn i
  descriptors : t.descriptors = s.descriptors
  claims : t.claims = s.claims
  pairs : t.pairs = s.pairs
  stack : t.stack = s.stack

namespace SameRecords

theorem refl (s : State) : SameRecords s s := by constructor <;> intros <;> rfl

theorem trans {s t u : State} (h : SameRecords s t) (k : SameRecords t u) : SameRecords s u where
  engine e := (k.engine e).trans (h.engine e)
  port p := (k.port p).trans (h.port p)
  station i := (k.station i).trans (h.station i)
  attn i := (k.attn i).trans (h.attn i)
  descriptors := k.descriptors.trans h.descriptors
  claims := k.claims.trans h.claims
  pairs := k.pairs.trans h.pairs
  stack := k.stack.trans h.stack

theorem ite {s : State} {c : Prop} [Decidable c] {t u : State} (h : SameRecords s t) (k : SameRecords s u) :
    SameRecords s (if c then t else u) := by split <;> assumption

theorem raise (s : State) (n : Notice) : SameRecords s (s.raise n) := by constructor <;> simp

theorem raiseAll (ns : List Notice) (s : State) : SameRecords s (s.raiseAll ns) := by
  induction ns generalizing s with
  | nil => exact refl s
  | cons n ns ih => exact (raise s n).trans (ih (s.raise n))

theorem handOver (s : State) (i : Fin 64) (o : Origin) : SameRecords s (s.handOver i o) := by
  unfold State.handOver; exact ite (raise _ _) (refl _)

theorem handOverResults (s : State) (t : Transaction) (b : AttnState) : SameRecords s (s.handOverResults t b) := by
  unfold State.handOverResults; exact ite (handOver _ _ _) (refl _)

theorem placeReply (s : State) (f : Frame) (r : Reply) (tx : Option Transmission) : SameRecords s (s.placeReply f r tx) where
  engine e := by cases e <;> simp [State.placeReply, State.engine]
  port p := by cases p <;> simp [State.placeReply, State.port]
  station i := by simp [State.placeReply, State.station]
  attn i := by simp [State.placeReply, State.attn]
  descriptors := by simp [State.placeReply]
  claims := by simp [State.placeReply]
  pairs := by simp [State.placeReply]
  stack := by simp [State.placeReply]

end SameRecords

/-! ### Operations on one station -/

/-- Beside the notices and the claims only the records of station `i` change, and its configuration does not. -/
structure OnStation (i : Fin 64) (s t : State) : Prop where
  engine : ∀ e, t.engine e = s.engine e
  port : ∀ p, t.port p = s.port p
  config : (t.station i).config = (s.station i).config
  others : ∀ j, j ≠ i → t.station j = s.station j ∧ t.attn j = s.attn j
  descriptors : t.descriptors = s.descriptors
  pairs : t.pairs = s.pairs
  stack : t.stack = s.stack

namespace OnStation
variable {i : Fin 64}

theorem refl (s : State) : OnStation i s s := by constructor <;> intros <;> trivial

theorem trans {s t u : State} (h : OnStation i s t) (k : OnStation i t u) : OnStation i s u where
  engine e := (k.engine e).trans (h.engine e)
  port p := (k.port p).trans (h.port p)
  config := k.config.trans h.config
  others j hj := ⟨(k.others j hj).1.trans (h.others j hj).1, (k.others j hj).2.trans (h.others j hj).2⟩
  descriptors := k.descriptors.trans h.descriptors
  pairs := k.pairs.trans h.pairs
  stack := k.stack.trans h.stack

theorem ite {s : State} {c : Prop} [Decidable c] {t u : State} (h : OnStation i s t) (k : OnStation i s u) :
    OnStation i s (if c then t else u) := by split <;> assumption

theorem foldl {α : Type} (f : State → α → State) (h : ∀ s a, OnStation i s (f s a)) (xs : List α) (s : State) :
    OnStation i s (xs.foldl f s) := by
  induction xs generalizing s with
  | nil => exact refl s
  | cons x xs ih => exact (h s x).trans (ih (f s x))

theorem withStation {s : State} {g : Station → Station} (hg : (g (s.station i)).config = (s.station i).config) :
    OnStation i s (s.withStation i g) where
  engine := by simp
  port := by simp
  config := by simp [hg]
  others j hj := ⟨s.withStation_station_other g hj, rfl⟩
  descriptors := by simp
  pairs := by simp
  stack := by simp

theorem setAttn (s : State) (r : Attention) : OnStation i s (s.setAttn i r) where
  engine := by simp
  port := by simp
  config := by simp
  others j hj := ⟨rfl, s.setAttn_attn_other r hj⟩
  descriptors := by simp
  pairs := by simp
  stack := by simp

theorem raise (s : State) (n : Notice) : OnStation i s (s.raise n) := by constructor <;> simp

theorem of_same {s t : State} (h : SameRecords s t) : OnStation i s t where
  engine := h.engine
  port := h.port
  config := by rw [h.station]
  others j _ := ⟨h.station j, h.attn j⟩
  descriptors := h.descriptors
  pairs := h.pairs
  stack := h.stack

theorem setClaim (s : State) (d : Fin 32) (c : Option Engine) : OnStation i s (s.setClaim d c) := by constructor <;> simp

theorem abortCompletion (s : State) (e : Engine) (t : Transaction) : OnStation i s (s.abortCompletion e t) := by
  unfold State.abortCompletion
  cases t.source with
  | transfer d => exact setClaim _ _ _
  | demand q => exact raise _ _
  | _ => exact refl _

theorem stationNotice (s : State) (j : Fin 64) (why : StationReason) : OnStation i s (s.stationNotice j why) := raise _ _

theorem takeClass (s : State) (c : Fin 3) : OnStation i s (s.takeClass i c) := by
  unfold State.takeClass State.escalationCheck
  exact ite (setAttn _ _) ((setAttn _ _).trans (ite (setAttn _ _) (refl _)))

theorem takeStatus (s : State) (src : Source) (t : Status) : OnStation i s (s.takeStatus i src t) := by
  unfold State.takeStatus
  (repeat' split) <;> first | exact takeClass _ _ | exact refl _

theorem lineChange (s : State) (p : PortId) : OnStation i s (s.lineChange i p) := by
  unfold State.lineChange
  exact ite (refl _) ((withStation rfl).trans (stationNotice _ _ _))

theorem faultChange (s : State) (t : Status) (now : Stamp) : OnStation i s (s.faultChange i t now) := by
  unfold State.faultChange
  exact ite (withStation rfl) ((withStation rfl).trans (stationNotice _ _ _))

theorem takeReply (s : State) (src : Source) (r : ReplyStatus) : OnStation i s (s.takeReply i src r) :=
  ((lineChange _ _).trans (faultChange _ _ _)).trans (takeStatus _ _ _)

theorem healthUpdate (s : State) (o : LineOutcome) : OnStation i s (s.healthUpdate i o) := by
  unfold State.healthUpdate
  refine ite (ite ((withStation rfl).trans (stationNotice _ _ _)) (withStation rfl)) (ite ?_ (refl _))
  exact ite ((withStation rfl).trans (stationNotice _ _ _)) (withStation rfl)

theorem offlineEffects (s : State) : OnStation i s (s.offlineEffects i) := by
  unfold State.offlineEffects; exact ite (refl _) (setAttn _ _)

theorem probeToggle (s : State) (src : Source) (o : LineOutcome) : OnStation i s (s.probeToggle i src o) := by
  unfold State.probeToggle
  cases src with
  | probe n f => exact ite (withStation rfl) (refl _)
  | _ => exact refl _

theorem stationResults (s : State) (t : Transaction) (o : LineOutcome) : OnStation t.subject s (s.stationResults t o) := by
  unfold State.stationResults
  refine (((foldl _ (fun s r => takeReply s t.source r) t.statuses s).trans (healthUpdate _ o)).trans ?_).trans (withStation rfl)
  exact (ite (offlineEffects _) (refl _)).trans (probeToggle _ _ _)

end OnStation

/-! ### The subject's record (R27 to R32) -/

section
variable (s : State) (i : Fin 64)

theorem State.lineChange_station (p : PortId) : (s.lineChange i p).station i = { s.station i with line := p } := by
  unfold State.lineChange State.stationNotice
  split
  · rename_i h; rw [← h]
  · simp

theorem State.faultChange_station (t : Status) (now : Stamp) :
    (s.faultChange i t now).station i = { s.station i with last := t, lastContact := now } := by
  unfold State.faultChange State.stationNotice
  dsimp only
  split <;> simp

/-- The Arbiter writes no station's record. -/
theorem State.takeStatus_station (src : Source) (t : Status) : (s.takeStatus i src t).station i = s.station i := by
  have class_station : (s.takeClass i t.cls).station i = s.station i := by
    unfold State.takeClass State.escalationCheck
    (repeat' split) <;> rfl
  unfold State.takeStatus
  (repeat' split) <;> first | exact class_station | rfl

/-- A reply status leaves its line, its status and its time in the record (R30, R32). -/
theorem State.takeReply_station (src : Source) (r : ReplyStatus) : (s.takeReply i src r).station i =
    { s.station i with line := r.port, last := r.status, lastContact := r.time } := by
  rw [State.takeReply, State.takeStatus_station, State.faultChange_station, State.lineChange_station]

theorem State.offlineEffects_station : (s.offlineEffects i).station i = s.station i := by
  unfold State.offlineEffects; split <;> rfl

theorem State.healthUpdate_good : (s.healthUpdate i .good).station i = { s.station i with failCount := 0, health := .online } := by
  unfold State.healthUpdate State.stationNotice
  by_cases h : (s.station i).health = .offline <;> simp [LineOutcome.answered, h]

end

/-- An outcome that is neither a reply nor a failure is no probe's failure. -/
theorem State.probeToggle_of_not_failed (s : State) (i : Fin 64) (src : Source) {o : LineOutcome} (h : o.failed = false) :
    s.probeToggle i src o = s := by
  unfold State.probeToggle
  cases src with
  | probe n f => exact if_neg fun hf => by rw [h] at hf; cases hf.1
  | _ => rfl

/-- Reply statuses do not count in the health of a station (R28). -/
theorem State.foldl_takeReply_health (i : Fin 64) (src : Source) (rs : List ReplyStatus) (s : State) :
    let t := rs.foldl (fun s r => s.takeReply i src r) s
    (t.station i).health = (s.station i).health ∧ (t.station i).failCount = (s.station i).failCount := by
  induction rs generalizing s with
  | nil => exact ⟨rfl, rfl⟩
  | cons r rs ih =>
    obtain ⟨hh, hf⟩ := ih (s.takeReply i src r)
    rw [State.takeReply_station] at hh hf
    exact ⟨hh, hf⟩

/-- The results leave the station out of every transaction (R27). -/
theorem State.stationResults_inTransaction (s : State) (t : Transaction) (o : LineOutcome) :
    ((s.stationResults t o).station t.subject).inTransaction = none := by
  unfold State.stationResults
  simp

/-- The subject's record after the results of a transaction that has not failed: its reply statuses and its health, with no probe
to toggle (R27). -/
theorem State.stationResults_station (s : State) (t : Transaction) {o : LineOutcome} (h : o.failed = false) :
    let replied := t.statuses.foldl (fun s r => s.takeReply t.subject t.source r) s
    (s.stationResults t o).station t.subject =
      { (replied.healthUpdate t.subject o).station t.subject with inTransaction := none } := by
  unfold State.stationResults
  dsimp only
  rw [State.withStation_station, State.probeToggle_of_not_failed _ _ _ h]
  split
  · rw [State.offlineEffects_station]
  · rfl

/-- The results of an ABORTED transaction change no health (R72). -/
theorem State.stationResults_aborted (s : State) (t : Transaction) :
    let u := s.stationResults t .aborted
    (u.station t.subject).health = (s.station t.subject).health ∧
      (u.station t.subject).failCount = (s.station t.subject).failCount := by
  dsimp only
  rw [State.stationResults_station s t rfl]
  exact State.foldl_takeReply_health t.subject t.source t.statuses s

end Sys2Proof.Machine
end

section
/-!
LINE-STOP ABORT with a transaction in flight (O39).
-/

namespace Sys2Proof.Machine

/-! ### Ports and engines under ABORT -/

/-- ABORT at a port, by what the port carries and what waits in it (R15, R49). -/
theorem Port.abort_by_phase (e : Engine) (x : Port) :
    let free : Port := match x.waiting with
      | some a => if a.engine = e then { x with waiting := none } else x
      | none => x
    let turned : Port := { free with
      phase := .turnaround, rxChar := none, rxBreak := false, shifter := none
      interval := some (x.settings.interval .turnaround) }
    x.abort e = match x.phase with
      | .sending (some a) =>
        if a.engine = e then { free with phase := .sending none, shifter := x.shifter.map Shifter.cut } else free
      | .awaiting a _ => if a.engine = e then turned else free
      | .receiving a _ => if a.engine = e then turned else free
      | .discarding a _ => if a.engine = e then turned else free
      | _ => free := by
  intro free turned
  have hset : free.settings = x.settings ∧ free.phase = x.phase ∧ free.shifter = x.shifter := by
    simp only [free]
    (repeat' split) <;> exact ⟨rfl, rfl, rfl⟩
  obtain ⟨hsettings, hphase, hshifter⟩ := hset
  have hturn : free.turn = turned := by simp only [Port.turn, Port.begin, turned, hsettings]
  show (match free.phase with
    | .sending (some a) =>
      if a.engine = e then { free with phase := .sending none, shifter := free.shifter.map Shifter.cut } else free
    | .awaiting a _ => if a.engine = e then free.turn else free
    | .receiving a _ => if a.engine = e then free.turn else free
    | .discarding a _ => if a.engine = e then free.turn else free
    | .sending none => free
    | .turnaround => free
    | .idle => free) = _
  rw [hphase, hturn, hshifter]
  cases x.phase with
  | sending w => cases w <;> rfl
  | _ => rfl

theorem State.withEngine_withEngine (s : State) (e : Engine) (f g : EngineState → EngineState) :
    (s.withEngine e f).withEngine e g = s.withEngine e fun en => g (f en) := by
  cases e <;> rfl

/-- Demands that end raise their notices in order; none of them changes what the next one reads. -/
theorem State.foldl_demandNotice (e : Engine) (qs : List Demand) {u v : State} (h : ∀ i, u.station i = v.station i) :
    qs.foldl (fun s q => s.demandNotice e q .discarded 0 []) u = u.raiseAll (qs.map fun q =>
      .demandResult q.tag e q.station q.kind .discarded 0 (v.station q.station).last []) := by
  induction qs generalizing u with
  | nil => rfl
  | cons q qs ih =>
    rw [List.foldl_cons, ih fun i => by rw [State.demandNotice, State.raise_station, h i], State.demandNotice, h q.station]
    rfl

/-- ABORT stops an engine: its demands are discarded head first, and LINE-STATE STOPPED is raised (R50). -/
theorem State.stopEngine_abort (s : State) (e : Engine) : s.stopEngine e .abort =
    (s.withEngine e fun en => { en.halt with demands := [] }).raiseAll
      (((s.engine e).demands.map fun q =>
        .demandResult q.tag e q.station q.kind .discarded 0 (s.station q.station).last []) ++
          [.lineStopped e .abort (s.engine e).cycle]) := by
  have halted : ∀ i, ((s.withEngine e EngineState.halt).withEngine e fun en => { en with demands := [] }).station i = s.station i :=
    fun i => by rw [State.withEngine_station, State.withEngine_station]
  have demands : ((s.withEngine e EngineState.halt).engine e).demands = (s.engine e).demands := by
    rw [State.withEngine_engine]; rfl
  have stopped : ∀ ns, ((((s.withEngine e EngineState.halt).withEngine e fun en => { en with demands := [] }).raiseAll
      ns).engine e).cycle = (s.engine e).cycle := fun ns => by
    rw [(SameRecords.raiseAll ns _).engine, State.withEngine_engine, State.withEngine_engine]
    rfl
  unfold State.stopEngine
  dsimp only
  rw [if_pos rfl, State.discardDemands, demands, State.foldl_demandNotice e _ halted, stopped, State.withEngine_withEngine,
    State.raiseAll, State.raiseAll, List.foldl_append]
  rfl

theorem State.abortEngine_inTransaction {s : State} {e : Engine} {t : Transaction} (h : (s.engine e).activity = .inTransaction t) :
    s.abortEngine e = (s.abortTransaction e t).stopEngine e .abort := by
  rw [State.abortEngine, h]

/-- LINE-STOP ABORT at an engine that is neither stopped nor being aborted (R46). -/
theorem State.doLineStop_abort {s : State} {e : Engine} (hs : (s.engine e).run ≠ .stopped)
    (ha : (s.engine e).run ≠ .stopping .abort) : s.doLineStop (sideCode e) 3 =
      ((s.withEngine e fun en => { en with run := .stopping .abort }).abortEngine e).ok [] := by
  have hm : stopModeOf 3 = some .abort := rfl
  rw [State.doLineStop, sideOf_code, hm]
  dsimp only
  split
  · rename_i h; exact absurd h hs
  · rfl
  · rename_i pending h
    cases pending with
    | abort => exact absurd h ha
    | _ => rfl

/-- The entry of a transaction's subject into ESCALATED is handed over, or was none (R90, R135). -/
theorem State.handOverResults_eq (s : State) (t : Transaction) (before : AttnState) : s.handOverResults t before =
    if before ≠ .escalated ∧ (s.attn t.subject).state = .escalated ∧ s.serviceLevel < (s.attn t.subject).level then
      s.raise (.escalation t.subject (s.attn t.subject).level (s.attn t.subject).cls (s.station t.subject).config.mode
        (some t.source.origin) ((List.finRange 64).countP fun j => decide ((s.attn j).state = .escalated)) s.serviceLevel)
    else s := by
  unfold State.handOverResults State.handOver
  by_cases h1 : before ≠ .escalated ∧ (s.attn t.subject).state = .escalated
  · by_cases h2 : s.serviceLevel < (s.attn t.subject).level
    · rw [if_pos h1, if_pos h2, if_pos ⟨h1.1, h1.2, h2⟩]; rfl
    · rw [if_pos h1, if_neg h2, if_neg fun h => h2 h.2.2]
  · rw [if_neg h1, if_neg fun h => h1 ⟨h.1, h.2.1⟩]

/-! ### A transaction aborted (R72) -/

/-- The state behind the results, the completion and the hand-over of an aborted transaction; the engine is yet to stop. -/
def State.abortResults (s : State) (e : Engine) (t : Transaction) : State :=
  ((((s.withPort .a (Port.abort e)).withPort .b (Port.abort e)).stationResults t .aborted).abortCompletion e t).handOverResults t
    (s.attn t.subject).state

section
variable (s : State) (e : Engine) (t : Transaction)

theorem State.abortTransaction_eq : s.abortTransaction e t = (s.abortResults e t).withEngine e EngineState.leaveSlot := rfl

theorem State.onStation_abortResults :
    OnStation t.subject ((s.withPort .a (Port.abort e)).withPort .b (Port.abort e)) (s.abortResults e t) :=
  ((OnStation.stationResults _ t _).trans (.abortCompletion _ e t)).trans (.of_same (.handOverResults _ t _))

theorem State.abortCompletion_station (i : Fin 64) : (s.abortCompletion e t).station i = s.station i := by
  unfold State.abortCompletion State.demandNotice
  cases t.source with
  | demand q => rw [State.raise_station]
  | _ => rfl

theorem State.abortResults_engine (x : Engine) : (s.abortResults e t).engine x = s.engine x := by
  rw [(s.onStation_abortResults e t).engine, State.withPort_engine, State.withPort_engine]

theorem State.abortResults_port (p : PortId) : (s.abortResults e t).port p = (s.port p).abort e := by
  rw [(s.onStation_abortResults e t).port]
  cases p <;> rfl

/-- The subject's record is the one that the results leave. -/
theorem State.abortResults_station : (s.abortResults e t).station t.subject =
    (((s.withPort .a (Port.abort e)).withPort .b (Port.abort e)).stationResults t .aborted).station t.subject := by
  rw [State.abortResults, (SameRecords.handOverResults _ t _).station, State.abortCompletion_station]

/-- No station's health, fail count or configuration changes, and of the others nothing (R72). -/
theorem State.abortResults_stations (j : Fin 64) :
    let u := s.abortResults e t
    (u.station j).health = (s.station j).health ∧ (u.station j).failCount = (s.station j).failCount ∧
      (u.station j).config = (s.station j).config ∧ (j ≠ t.subject → u.station j = s.station j ∧ u.attn j = s.attn j) := by
  have on := s.onStation_abortResults e t
  have others : j ≠ t.subject → (s.abortResults e t).station j = s.station j ∧ (s.abortResults e t).attn j = s.attn j := by
    simpa using on.others j
  by_cases hj : j = t.subject
  · subst hj
    have results := State.stationResults_aborted ((s.withPort .a (Port.abort e)).withPort .b (Port.abort e)) t
    simp only [State.withPort_station] at results
    refine ⟨?_, ?_, ?_, others⟩
    · rw [State.abortResults_station, results.1]
    · rw [State.abortResults_station, results.2]
    · rw [on.config, State.withPort_station, State.withPort_station]
  · dsimp only
    rw [(others hj).1]
    exact ⟨rfl, rfl, rfl, fun _ => ⟨rfl, (others hj).2⟩⟩

/-- A transfer's claim is released (R72). -/
theorem State.abortResults_claim {d : Fin 32} (h : t.source = .transfer d) : (s.abortResults e t).claim d = none := by
  rw [State.claim, State.abortResults, (SameRecords.handOverResults _ t _).claims, State.abortCompletion, h]
  exact State.setClaim_claim _ d none

end

/-- ABORT with a transaction in flight, in the order of R49, R72 and R50. -/
theorem State.abortEngine_eq {s : State} {e : Engine} {t : Transaction} (h : (s.engine e).activity = .inTransaction t) :
    s.abortEngine e = ((s.abortResults e t).withEngine e fun en => { en.leaveSlot.halt with demands := [] }).raiseAll
      (((s.engine e).demands.map fun q =>
        .demandResult q.tag e q.station q.kind .discarded 0 ((s.abortResults e t).station q.station).last []) ++
          [.lineStopped e .abort (s.engine e).cycle]) := by
  rw [State.abortEngine_inTransaction h, State.abortTransaction_eq, State.stopEngine_abort, State.withEngine_withEngine]
  simp only [State.withEngine_engine, State.withEngine_station, State.abortResults_engine, EngineState.leaveSlot]

/-- A port carrying an attempt of the engine, or keeping one waiting, behind an abort (R15). -/
theorem Port.abort_of_carrying {x : Port} {e : Engine} {a : Attempt} (ha : a.engine = e) :
    (x.phase = .sending (some a) → (x.abort e).phase = .sending none ∧ (x.abort e).shifter = x.shifter.map Shifter.cut) ∧
    (((∃ w, x.phase = .awaiting a w) ∨ (∃ cs, x.phase = .receiving a cs) ∨ (∃ n, x.phase = .discarding a n)) →
      (x.abort e).phase = .turnaround ∧ (x.abort e).interval = some (x.settings.interval .turnaround)) ∧
    (x.waiting = some a → (x.abort e).waiting = none) := by
  rw [Port.abort_eq]
  refine ⟨fun hp => ?_, fun hp => ?_, fun hw => ?_⟩
  · have hq : (x.withdraw e).phase = .sending (some a) := hp
    rw [Port.abortCarried, hq]
    dsimp only
    rw [if_pos ha]
    exact ⟨rfl, rfl⟩
  · have turned : (x.withdraw e).abortCarried e = (x.withdraw e).turn := by
      obtain ⟨w, hp⟩ | ⟨w, hp⟩ | ⟨w, hp⟩ := hp <;>
        (have hq : (x.withdraw e).phase = _ := hp
         rw [Port.abortCarried, hq]
         exact if_pos ha)
    rw [turned]
    exact ⟨rfl, rfl⟩
  · have hq : (x.withdraw e).waiting = none := by simp [Port.withdraw, hw, ha]
    obtain h | ⟨b, -, h⟩ | ⟨-, h⟩ := (x.withdraw e).abortCarried_cases e <;> (rw [h]; exact hq)

/-- Settles O39: the steps of the abort by their equations, and what they leave alone by the frames above. -/
theorem abortEndsTheTransaction : Obligations.AbortEndsTheTransaction := by
  intro s tag e tr hproc hstopped habort hact f i begun aborted resulted completed origin handed halted ended
  have hports : Port.abort e = aborted := funext fun x => Port.abort_by_phase e x
  have hresults : begun.abortResults e tr = handed := by
    have hresulted : ((begun.withPort .a (Port.abort e)).withPort .b (Port.abort e)).stationResults tr .aborted = resulted := by
      rw [hports]; rfl
    have hcompleted : resulted.abortCompletion e tr = completed := by
      simp only [State.abortCompletion, completed]
      cases tr.source <;> rfl
    have horigin : tr.source.origin = origin := by
      simp only [origin]
      cases tr.source <;> rfl
    have hbefore : begun.attn tr.subject = s.attn i := by simp [begun, i]
    rw [State.abortResults, hresulted, hcompleted, State.handOverResults_eq, hbefore, horigin]
  have hbegun : begun.engine e = { s.engine e with run := .stopping .abort } := by simp [begun]
  have hended : begun.abortEngine e = ended := by
    rw [State.abortEngine_eq (s := begun) (by rw [hbegun]; exact hact), hresults, hbegun]
    simp only [ended, halted, State.withEngine_station]
    rfl
  have same : SameRecords halted (ended.placeReply f ⟨.ok, []⟩ s.tx) := (SameRecords.raiseAll _ _).trans (.placeReply _ _ _ _)
  have hexec : exec (.lineStop tag (sideCode e) 3) s = .next (ended.placeReply f ⟨.ok, []⟩ s.tx) := by
    have handled : (s.inDispatch f).doLineStop (sideCode e) 3 = ended.ok [] := by
      rw [State.doLineStop_abort (by simpa using hstopped) (by simpa using habort)]
      exact congrArg (fun u => State.ok u []) hended
    refine (congrArg Host.Outcome.next (State.receiveFrame_idle s f hproc (Nat.le_of_ble_eq_true rfl))).trans ?_
    have hhandle : (s.inDispatch f).handle f = ended.ok [] := handled
    rw [hhandle]
    rfl
  have hrx : ended.rx = .hunting := by
    rw [← hended, (EngineFrame.abortEngine begun e).rx]
    exact State.withEngine_rx _ _ _
  have hengine : ∀ x, handed.engine x = begun.engine x := fun x => by rw [← hresults, State.abortResults_engine]
  have hown : (ended.placeReply f ⟨.ok, []⟩ s.tx).engine e =
      { { s.engine e with run := .stopping .abort }.leaveSlot.halt with demands := [] } := by
    rw [same.engine, ← hbegun, ← hengine]
    exact State.withEngine_engine _ _ _
  have hother : (ended.placeReply f ⟨.ok, []⟩ s.tx).engine e.other = s.engine e.other := by
    have hne : e.other ≠ e := by cases e <;> decide
    rw [same.engine, State.withEngine_engine_other _ _ hne, hengine, State.withEngine_engine_other _ _ hne,
      State.inDispatch_engine]
  have on := begun.onStation_abortResults e tr
  have hstations := begun.abortResults_stations e tr
  have hport := begun.abortResults_port e tr
  rw [hresults] at hstations hport on
  have hsubject : (handed.station i).inTransaction = none := by
    rw [← hresults, State.abortResults_station]
    exact State.stationResults_inTransaction _ _ _
  refine ⟨_, hexec, rfl, State.placeReply_holds s ended f _ hrx, ?_⟩
  rw [hown]
  refine ⟨rfl, rfl, rfl, rfl, rfl, rfl, rfl, rfl, rfl, rfl, hother, ?_, fun j => ?_, ?_, ?_, ?_, fun d hd => ?_, fun p a ha => ?_⟩
  · rw [same.station, State.withEngine_station, hsubject]
  · rw [same.station, same.attn, State.withEngine_station, State.withEngine_attn]
    simpa [begun] using hstations j
  · rw [same.descriptors, State.withEngine_descriptors, on.descriptors]
    simp [begun]
  · rw [same.pairs, State.withEngine_pairs, on.pairs]
    simp [begun]
  · rw [same.stack, State.withEngine_stack, on.stack]
    simp [begun]
  · rw [State.claim, same.claims, State.withEngine_claims, ← hresults]
    exact begun.abortResults_claim e tr hd
  · have hp : (ended.placeReply f ⟨.ok, []⟩ s.tx).port p = (s.port p).abort e := by
      rw [same.port, State.withEngine_port, hport, State.withEngine_port, State.inDispatch_port]
    rw [hp]
    exact Port.abort_of_carrying ha

end Sys2Proof.Machine
end

section
/-!
The end of a GOOD FIXED READ (O55).
-/

namespace Sys2Proof.Machine

/-! ### The engine's own step at a transaction's end (R70) -/

/-- An engine that stops changes its own state and raises notices (R50). -/
theorem State.stopEngine_records (s : State) (e : Engine) (mode : StopMode) :
    ∃ g : EngineState → EngineState, SameRecords (s.withEngine e g) (s.stopEngine e mode) := by
  cases mode with
  | abort => exact ⟨_, s.stopEngine_abort e ▸ SameRecords.raiseAll _ _⟩
  | _ => exact ⟨EngineState.halt, SameRecords.raise _ _⟩

/-- An engine that leaves a transaction changes its own state and raises notices; one that runs is in GAP for the port (R55). -/
theorem State.leaveTransaction_records (s : State) (e : Engine) (p : PortId) :
    ∃ g : EngineState → EngineState, SameRecords (s.withEngine e g) (s.leaveTransaction e p) ∧
      ((s.engine e).run = .running → (g (s.engine e)).activity = .gap p) := by
  let left := s.withEngine e fun en => { en.leaveSlot with activity := .gap p }
  have hrun : (left.engine e).run = (s.engine e).run := by rw [State.withEngine_engine]; rfl
  have stops : ∀ mode, ∃ g : EngineState → EngineState, SameRecords (s.withEngine e g) (left.stopEngine e mode) := fun mode => by
    obtain ⟨g, hg⟩ := left.stopEngine_records e mode
    rw [State.withEngine_withEngine] at hg
    exact ⟨_, hg⟩
  have stays : ∃ g : EngineState → EngineState, SameRecords (s.withEngine e g) left ∧
      ((s.engine e).run = .running → (g (s.engine e)).activity = .gap p) := ⟨_, .refl _, fun _ => rfl⟩
  have gone : ∀ mode, (s.engine e).run ≠ .running → ∃ g : EngineState → EngineState,
      SameRecords (s.withEngine e g) (left.stopEngine e mode) ∧
        ((s.engine e).run = .running → (g (s.engine e)).activity = .gap p) := fun mode hr =>
    (stops mode).imp fun g hg => ⟨hg, fun h => absurd h hr⟩
  show ∃ g : EngineState → EngineState, SameRecords (s.withEngine e g) (match (left.engine e).run with
    | .stopping .afterTransaction => left.stopEngine e .afterTransaction
    | .stopping .afterCycle => if (left.engine e).timer.isNone then left.stopEngine e .afterCycle else left
    | .stopping .abort => left.stopEngine e .abort
    | .running => left
    | .stopped => left) ∧ _
  rw [hrun]
  cases hr : (s.engine e).run with
  | running => simpa [hr] using stays
  | stopped => simpa [hr] using stays
  | stopping mode =>
    have hne : (s.engine e).run ≠ .running := by rw [hr]; exact nofun
    cases mode with
    | afterTransaction => simpa [hr] using gone .afterTransaction hne
    | abort => simpa [hr] using gone .abort hne
    | afterCycle =>
      dsimp only
      split
      · simpa [hr] using gone .afterCycle hne
      · simpa [hr] using stays

/-! ### The captured pair (R122, R126) -/

/-- A word of a half that words have been written into. -/
theorem getElem_writeWords (v : Vector Word 128) (start : Nat) (ws : List Word) (k : Fin 128) :
    (writeWords v start ws)[k] = if start ≤ k.val then (ws[k.val - start]?).getD v[k] else v[k] := by
  simp only [writeWords, Fin.getElem_fin, Vector.getElem_ofFn]
  by_cases h1 : start ≤ k.val
  · by_cases h2 : k.val < start + ws.length
    · have hk : k.val - start < ws.length := by omega
      simp [h1, h2, hk]
    · have hk : ws.length ≤ k.val - start := by omega
      simp [h1, h2, hk]
  · simp [h1]

theorem SameRecords.pair {s t : State} (h : SameRecords s t) (q : Fin 16) : t.pair q = s.pair q := by
  rw [State.pair, h.pairs]; rfl

theorem SameRecords.withEngine {s t : State} (h : SameRecords s t) (e : Engine) (g : EngineState → EngineState) :
    SameRecords (s.withEngine e g) (t.withEngine e g) where
  engine x := by
    by_cases hx : x = e
    · subst hx; rw [State.withEngine_engine, State.withEngine_engine, h.engine]
    · rw [State.withEngine_engine_other _ _ hx, State.withEngine_engine_other _ _ hx, h.engine]
  port := by simp [h.port]
  station := by simp [h.station]
  attn := by simp [h.attn]
  descriptors := by simp [h.descriptors]
  claims := by simp [h.claims]
  pairs := by simp [h.pairs]
  stack := by simp [h.stack]

/-- A pair with the words and the capture stamp of another. -/
def Pair.SameWords (p r : Pair) : Prop := (∀ h, r.half h = p.half h) ∧ r.captureStamp = p.captureStamp

/-- A flip touches its pair alone, and of it neither the words nor the capture stamp (R126, R128). -/
theorem State.flip_records (s : State) (e : Engine) (p : Fin 16) (c : FlipCause) :
    ∃ r, SameRecords (s.setPair p r) (s.flip e p c) ∧ (s.pair p).SameWords r := by
  unfold State.flip
  dsimp only
  split
  · exact ⟨_, SameRecords.raise _ _, fun h => by cases h <;> rfl, rfl⟩
  · exact ⟨_, SameRecords.refl _, fun h => by cases h <;> rfl, rfl⟩

theorem SameRecords.setPair_self (s : State) (p : Fin 16) : SameRecords (s.setPair p (s.pair p)) s := by
  have h : s.setPair p (s.pair p) = s := by
    simp [State.setPair, State.pair]
  rw [h]
  exact .refl s

/-- Step 4 of R70 for a FIXED slot: its pair keeps its words and its capture stamp. -/
theorem State.slotFlip_records (s : State) (e : Engine) {t : Transaction} {n : Fin 128} {f : FixedFields} (h : t.source = .fixed n f) :
    ∃ r, SameRecords (s.setPair f.pair r) (s.slotFlip e t) ∧ (s.pair f.pair).SameWords r := by
  rw [State.slotFlip, h]
  dsimp only
  split
  · exact s.flip_records e f.pair (.slot n)
  · exact ⟨_, .setPair_self s f.pair, fun _ => rfl, rfl⟩

/-- The end of a GOOD FIXED READ, in the order of R70: the words, the results, the slot's flip, and the engine's own step. -/
theorem State.endTransaction_goodFixedRead (s : State) (e : Engine) (p : PortId) {t : Transaction} {n : Fin 128} {f : FixedFields}
    (h : t.source = .fixed n f) (hk : t.request.kind = .read) :
    let captured := s.captureWords f.pair f.wordOffset.val t.readData
    ∃ (r : Pair) (g : EngineState → EngineState),
      SameRecords (((captured.stationResults t .good).setPair f.pair r).withEngine e g) (s.endTransaction e t .good p) ∧
        (captured.pair f.pair).SameWords r ∧ ((s.engine e).run = .running → (g (s.engine e)).activity = .gap p) := by
  intro captured
  let results := captured.stationResults t .good
  have on : OnStation t.subject captured results := .stationResults _ _ _
  obtain ⟨r, hflip, hwords⟩ := results.slotFlip_records e h
  let flipped := results.slotFlip e t
  let handed := flipped.handOverResults t (s.attn t.subject).state
  have hhanded : SameRecords flipped handed := .handOverResults _ _ _
  obtain ⟨g, hleft, hrun⟩ := handed.leaveTransaction_records e p
  have hengine : handed.engine e = s.engine e := by
    rw [hhanded.engine, hflip.engine, State.setPair_engine, on.engine]
    exact State.setPair_engine _ _ _ _
  have hend : s.endTransaction e t .good p = handed.leaveTransaction e p := by
    have hdeliver : s.deliverWords t .good = captured := by
      rw [State.deliverWords, if_pos ⟨rfl, hk⟩, h]
    have hsource : results.sourceCompletion e t .good = results := by rw [State.sourceCompletion, h]
    have htally : flipped.tallyFailed e .good = flipped := if_neg fun hf => absurd hf.1 Bool.false_ne_true
    show ((((((s.deliverWords t .good).stationResults t .good).sourceCompletion e t .good).slotFlip e t).tallyFailed e
      .good).handOverResults t (s.attn t.subject).state).leaveTransaction e p = _
    rw [hdeliver, hsource, htally]
  refine ⟨r, g, ?_, ?_, ?_⟩
  · rw [hend]
    exact ((hflip.trans hhanded).withEngine e g).trans hleft
  · have hpair : results.pair f.pair = captured.pair f.pair := by rw [State.pair, on.pairs]; rfl
    rwa [hpair] at hwords
  · rwa [hengine] at hrun

/-- The subject's record behind a GOOD reply, which is the last of the transaction's statuses (R27 to R32). -/
theorem State.stationResults_good (s : State) {t : Transaction} {earlier : List ReplyStatus} {r : ReplyStatus}
    (h : t.statuses = earlier ++ [r]) :
    let st := (s.stationResults t .good).station t.subject
    st.health = .online ∧ st.failCount = 0 ∧ st.line = r.port ∧ st.lastContact = r.time ∧ st.last = r.status ∧
      st.inTransaction = none := by
  dsimp only
  rw [State.stationResults_station s t rfl, State.healthUpdate_good, h, List.foldl_append, List.foldl_cons, List.foldl_nil,
    State.takeReply_station]
  exact ⟨rfl, rfl, rfl, rfl, rfl, rfl⟩

/-! ### The reply's characters -/

/-- The characters of a reply frame are whole when its count is its number of words (R7). -/
theorem wholeReply_of_words {address status count c1 c0 : Byte} {words : List Word} (hw : words.length = count.toNat)
    (hc : count.toNat ≤ 16) : WholeReply (0x5A :: ([address, status, count] ++ wordsBytes words ++ [c1, c0])) := by
  have hl := length_wordsBytes words
  refine ⟨?_, hc, ?_⟩
  · simp
  · simp [hl, hw]
    omega

/-- The report of a reply whose check, address, class, busy flag and count are as they should be (R12). -/
theorem Report.ofReply_good {a : Attempt} {status count : Byte} {words : List Word} (hw : words.length = count.toNat)
    (hcls : status.toNat % 4 ≠ 3) (hbusy : status.getLsbD 2 = false) (hexp : count.toNat = a.expected) :
    let covered := [a.request.address, status, count] ++ wordsBytes words
    Report.ofReply a (0x5A :: (covered ++ wordBytes (frameCheck covered))) =
      ⟨.good, ⟨if status.toNat % 4 = 1 then 1 else if status.toNat % 4 = 2 then 2 else 0, false, status.getLsbD 3⟩, words⟩ := by
  intro covered
  have hcheck : wordOf ((frameCheck covered).extractLsb' 8 8) ((frameCheck covered).extractLsb' 0 8) = frameCheck covered :=
    (wordBytes_eq_iff _ _ _).mp rfl
  refine (replyIsClassifiedInOrder a a.request.address status count _ _ words hw).trans ?_
  simp only [hbusy]
  rw [if_neg (not_not.mpr hcheck), if_neg (not_not.mpr rfl), if_neg hcls, if_neg (fun h => Bool.false_ne_true h.1),
    if_neg Bool.false_ne_true, if_neg (not_not.mpr hexp)]

/-- The class that is carried of a status byte (R172). -/
theorem statusClass_carried {k : Nat} (hk : k < 4) (h : k ≠ 3) :
    (if k = 1 then (1 : Fin 3) else if k = 2 then 2 else 0).val = k := by
  interval_cases k
  · rfl
  · rfl
  · rfl
  · exact absurd rfl h

/-- The fill half of a captured pair holds the words, and the other half is as it was (R122). -/
theorem State.captureWords_pair (s : State) (p : Fin 16) (start : Nat) (ws : List Word) :
    (s.captureWords p start ws).pair p =
      { (s.pair p).setHalf (s.pair p).working (writeWords ((s.pair p).half (s.pair p).working) start ws) with
        captureStamp := s.time } :=
  State.setPair_pair _ _ _

theorem Pair.half_setHalf_captured (p : Pair) (h : Half) (v : Vector Word 128) (now : Stamp) :
    ({ p.setHalf h v with captureStamp := now } : Pair).half h = v := by
  cases h <;> rfl

theorem Pair.half_setHalf_other (p : Pair) (h : Half) (v : Vector Word 128) (now : Stamp) :
    ({ p.setHalf h v with captureStamp := now } : Pair).half h.other = p.half h.other := by
  cases h <;> rfl

/-- The fill half holds the words, and every other word of a half is kept. -/
theorem Pair.SameWords.delivered {old new : Pair} {start : Nat} {words : List Word} {now : Stamp}
    (h : ({ old.setHalf old.working (writeWords (old.half old.working) start words) with captureStamp := now } : Pair).SameWords new) :
    (∀ k : Fin 128, (new.half old.working)[k] =
      if start ≤ k.val then (words[k.val - start]?).getD (old.half old.working)[k] else (old.half old.working)[k]) ∧
    new.half old.working.other = old.half old.working.other ∧ new.captureStamp = now := by
  obtain ⟨hhalf, hstamp⟩ := h
  have written := hhalf old.working
  have kept := hhalf old.working.other
  rw [Pair.half_setHalf_captured] at written
  rw [Pair.half_setHalf_other] at kept
  exact ⟨fun k => by rw [written, getElem_writeWords], kept, hstamp⟩

/-- A port's report of a GOOD FIXED READ is the transaction's end (R67, R68, R70). -/
theorem State.endAttempt_goodFixedRead {s : State} {p : PortId} {a : Attempt} {t : Transaction} {n : Fin 128} {f : FixedFields}
    (bits : Status) (words : List Word) (hact : (s.engine a.engine).activity = .inTransaction t) (hsrc : t.source = .fixed n f)
    (hkind : t.request.kind = .read) :
    let t' := t.record p ⟨.good, bits, words⟩ s.time
    let captured := (s.withPort p Port.turn).captureWords f.pair f.wordOffset.val words
    ∃ (r : Pair) (g : EngineState → EngineState),
      SameRecords (((captured.stationResults t' .good).setPair f.pair r).withEngine a.engine g)
        (s.endAttempt p a ⟨.good, bits, words⟩) ∧
        (captured.pair f.pair).SameWords r ∧ ((s.engine a.engine).run = .running → (g (s.engine a.engine)).activity = .gap p) := by
  intro t' captured
  let turned := s.withPort p Port.turn
  have hread : t'.readData = words := if_pos ⟨rfl, hkind⟩
  have hended : s.endAttempt p a ⟨.good, bits, words⟩ = turned.endTransaction a.engine t' .good p := by
    have taken := State.takeReport_inTransaction (s := turned) (e := a.engine) (t := t) (by simpa [turned] using hact) p
      ⟨.good, bits, words⟩
    rw [if_pos (.inl rfl), State.endTransaction_finish, State.withPort_time] at taken
    exact taken
  have final := turned.endTransaction_goodFixedRead a.engine p (t := t') hsrc hkind
  rw [hread, State.withPort_engine] at final
  rw [hended]
  exact final

/-- Settles O55: the reply is GOOD, its transaction's result is final, and the steps of R70 follow. -/
theorem goodFixedReadIsDelivered : Obligations.GoodFixedReadIsDelivered := by
  intro s p e t n f chars rest status count words a covered hact hsrc hsubj hkind hphase hchars hrest hbreak hline hall hw hc hexp
    _ hcls hbusy
  have hhears : (s.port p).hears = true := (s.port p).hears_iff.mpr ⟨hbreak, hline⟩
  have hwhole : WholeReply (chars ++ rest) := by rw [hall]; exact wholeReply_of_words hw hc
  have hexec := exec_replyFrameComplete hhears (.inl ⟨hphase, hchars⟩) (fun h => absurd h hchars)
    (completesReply_iff.mpr ⟨hrest, hwhole⟩)
  rw [hall, Report.ofReply_good (a := a) hw hcls hbusy hexp] at hexec
  let bits : Status := ⟨if status.toNat % 4 = 1 then 1 else if status.toNat % 4 = 2 then 2 else 0, false, status.getLsbD 3⟩
  let heard := s.withPort p fun x => x.charEnds .high
  obtain ⟨r, g, same, hwords, hrun⟩ := State.endAttempt_goodFixedRead (s := heard) (p := p) (a := a) bits words
    (by simpa [heard] using hact) hsrc hkind
  let captured := (heard.withPort p Port.turn).captureWords f.pair f.wordOffset.val words
  let t' := t.record p ⟨.good, bits, words⟩ heard.time
  let results := captured.stationResults t' .good
  have on : OnStation t'.subject captured results := OnStation.stationResults _ _ _
  have record := captured.stationResults_good (t := t') rfl
  have hsubject : t'.subject = f.station := hsubj
  rw [hsubject] at on record
  have hpair : (heard.withPort p Port.turn).pair f.pair = s.pair f.pair := by simp [heard]
  have htime : (heard.withPort p Port.turn).time = s.time := by simp [heard]
  rw [State.captureWords_pair, hpair, htime] at hwords
  obtain ⟨hnew, hkept, hstamp⟩ := hwords.delivered
  change SameRecords ((results.setPair f.pair r).withEngine e g) (heard.endAttempt p a ⟨.good, bits, words⟩) at same
  refine ⟨_, hexec, ?_⟩
  change exec _ s = .next (heard.endAttempt p a ⟨.good, bits, words⟩) at hexec
  generalize heard.endAttempt p a ⟨.good, bits, words⟩ = u at hexec same
  have hp : u.pair f.pair = r := by rw [same.pair, State.withEngine_pair, State.setPair_pair]
  have hstation : ∀ i, u.station i = results.station i := fun i => by
    rw [same.station, State.withEngine_station, State.setPair_station]
  have hattn : ∀ i, u.attn i = results.attn i := fun i => by rw [same.attn, State.withEngine_attn, State.setPair_attn]
  have hport : ∀ x, u.port x = (heard.withPort p Port.turn).port x := fun x => by
    rw [same.port, State.withEngine_port, State.setPair_port, on.port]
    exact State.setPair_port _ _ _ _
  have hne : p.other ≠ p := by cases p <;> decide
  obtain ⟨honline, hfail, hline', hcontact, hlast, htransaction⟩ := record
  rw [hp, hstation]
  refine ⟨hnew, ?_, hstamp, fun q hq => ?_, honline, hfail, hline', hcontact.trans (by simp [heard]), ?_, ?_, ?_, htransaction, ?_,
    ?_, fun i hi => ?_, ?_, ?_, fun hr => ?_⟩
  · revert hkept
    cases (s.pair f.pair).working <;> exact id
  · rw [same.pair, State.withEngine_pair, State.setPair_pair_other _ _ hq, State.pair, on.pairs]
    exact (State.setPair_pair_other _ _ hq).trans (by simp [heard])
  · rw [hlast]
  · rw [hlast]
  · rw [hlast]
    exact statusClass_carried (Nat.mod_lt _ (by decide)) hcls
  · rw [hport, State.withPort_port]
    rfl
  · rw [hport, State.withPort_port_other _ _ hne, State.withPort_port_other _ _ hne]
  · rw [hstation, hattn]
    obtain ⟨hs, ha⟩ := on.others i hi
    exact ⟨hs.trans (by simp [captured, heard, State.captureWords]), ha.trans (by simp [captured, heard, State.captureWords])⟩
  · rw [same.descriptors, State.withEngine_descriptors, State.setPair_descriptors, on.descriptors]
    simp [captured, heard, State.captureWords]
  · rw [same.stack, State.withEngine_stack, State.setPair_stack, on.stack]
    simp [captured, heard, State.captureWords]
  · rw [same.engine, State.withEngine_engine, State.setPair_engine, on.engine]
    have hengine : captured.engine e = s.engine e := by simp [captured, heard, State.captureWords]
    have hheard : heard.engine e = s.engine e := by simp [heard]
    rw [hengine, ← hheard]
    exact hrun (by rw [hheard]; exact hr)

end Sys2Proof.Machine
end

section
/-!
A transaction's results at the Station Table and the Arbiter (O46): each operation of R27 as an equation, and what the results make
of the subject's record and of its attention record.
-/

namespace Sys2Proof.Machine

/-! ### The operations of R27, as equations -/

section
variable (s : State) (i : Fin 64)

/-- R30 with the notice's items written out. -/
theorem State.lineChange_eq (p : PortId) : s.lineChange i p = if (s.station i).line = p then s
    else (s.withStation i fun x => { x with line := p }).raise
      (.stationState i .lineChanged (s.station i).health p (s.station i).last) := by
  simp only [State.lineChange, State.stationNotice, State.withStation_station]

/-- R32 with the notice's items written out. -/
theorem State.faultChange_eq (t : Status) (now : Stamp) :
    let taken := s.withStation i fun x => { x with last := t, lastContact := now }
    s.faultChange i t now = if t.fault = (s.station i).last.fault then taken
      else taken.raise (.stationState i (if t.fault then .faultSet else .faultCleared) (s.station i).health
        (s.station i).line t) := by
  simp only [State.faultChange, State.stationNotice, State.withStation_station]

end

theorem bumpFail_eq (n : Fin 4) : bumpFail n = Fin.ofNat 4 (min 3 (n.val + 1)) := by decide +revert

theorem healthOf_bumpFail (n : Fin 4) : healthOf (bumpFail n) = if 2 ≤ n.val then .offline else .suspect := by decide +revert

theorem LineOutcome.failed_iff (o : LineOutcome) : o.failed = true ↔ o = .noReply ∨ o = .garbled ∨ o = .wrongStation := by
  cases o <;> simp [LineOutcome.failed]

section
variable (s : State) (i : Fin 64)

/-- R28 for a reply, with the notice's items written out. -/
theorem State.healthUpdate_of_answered {o : LineOutcome} (h : o.answered = true) :
    let scored := s.withStation i fun x => { x with failCount := 0, health := .online }
    s.healthUpdate i o = if (s.station i).health = .offline then
        scored.raise (.stationState i .online .online (s.station i).line (s.station i).last)
      else scored := by
  simp only [State.healthUpdate, State.stationNotice, State.withStation_station, h, if_true]

/-- R28 for a failure, with the notice's items written out. -/
theorem State.healthUpdate_of_failed {o : LineOutcome} (h : o.failed = true) :
    let health : Health := if 2 ≤ (s.station i).failCount.val then .offline else .suspect
    let scored := s.withStation i fun x =>
      { x with failCount := Fin.ofNat 4 (min 3 ((s.station i).failCount.val + 1)), health := health }
    s.healthUpdate i o = if (s.station i).health ≠ .offline ∧ health = .offline then
        scored.raise (.stationState i .offline .offline (s.station i).line (s.station i).last)
      else scored := by
  have ha : o.answered = false := by cases o <;> first | rfl | cases h
  simp only [State.healthUpdate, State.stationNotice, State.withStation_station, ha, h, if_true, Bool.false_eq_true, if_false,
    ← bumpFail_eq, healthOf_bumpFail]
  exact ite_congr rfl (fun hc => by simp only [hc.2]) fun _ => rfl

/-- R28 for an outcome that is neither. -/
theorem State.healthUpdate_of_neither {o : LineOutcome} (ha : o.answered = false) (hf : o.failed = false) :
    s.healthUpdate i o = s := by
  simp only [State.healthUpdate, ha, hf, Bool.false_eq_true, if_false]

/-- Whether a source is a probe. -/
def Source.isProbe : Source → Bool
  | .probe _ _ => true
  | _ => false

/-- R31. -/
theorem State.probeToggle_eq (src : Source) (o : LineOutcome) : s.probeToggle i src o =
    if src.isProbe = true ∧ o.failed = true ∧ s.arrangement = .paired ∧ (s.station i).config.alternate = .other ∧
        (s.station i).health = .offline then
      s.withStation i fun x => { x with line := x.line.other }
    else s := by
  cases src <;> simp only [State.probeToggle, Source.isProbe, true_and, Bool.false_eq_true, false_and, if_false]

/-- A change of a station record is what it makes of the record that stands. -/
theorem State.withStation_congr {s : State} {i : Fin 64} {f g : Station → Station} (h : f (s.station i) = g (s.station i)) :
    s.withStation i f = s.withStation i g :=
  congrArg (fun st => { s with stations := s.stations.set i st }) h

theorem State.stationResults_cons (t : Transaction) (o : LineOutcome) (r : ReplyStatus) (rest : List ReplyStatus)
    (h : t.statuses = r :: rest) :
    s.stationResults t o = (s.takeReply t.subject t.source r).stationResults { t with statuses := rest } o := by
  simp only [State.stationResults, h, List.foldl_cons]

end

/-! ### The subject's record -/

/-- A station's record with its line, last status and last contact as the last of some replies leaves them (R30, R32). -/
def Station.afterReplies (st : Station) (rs : List ReplyStatus) : Station :=
  match rs.getLast? with
  | none => st
  | some r => { st with line := r.port, last := r.status, lastContact := r.time }

/-- A station's record with its fail count and health as a final outcome leaves them (R28). -/
def Station.afterOutcome (st : Station) (o : LineOutcome) : Station :=
  if o.answered then { st with failCount := 0, health := .online }
  else if o.failed then { st with
    failCount := Fin.ofNat 4 (min 3 (st.failCount.val + 1)), health := if 2 ≤ st.failCount.val then .offline else .suspect }
  else st

/-- The state behind a transaction's reply statuses, taken in turn. -/
def State.afterReplies (s : State) (t : Transaction) : State :=
  t.statuses.foldl (fun s r => s.takeReply t.subject t.source r) s

section
variable (s : State) (i : Fin 64)

theorem State.afterReplies_station (t : Transaction) :
    (s.afterReplies t).station t.subject = (s.station t.subject).afterReplies t.statuses := by
  unfold State.afterReplies
  induction t.statuses using List.reverseRecOn with
  | nil => rfl
  | append_singleton rs r ih =>
    rw [List.foldl_append, List.foldl_cons, List.foldl_nil, State.takeReply_station, ih]
    simp only [Station.afterReplies, List.getLast?_concat]
    cases rs.getLast? <;> rfl

theorem State.healthUpdate_station (o : LineOutcome) : (s.healthUpdate i o).station i = (s.station i).afterOutcome o := by
  unfold Station.afterOutcome
  cases ha : o.answered with
  | true =>
    rw [State.healthUpdate_of_answered s i ha, if_pos rfl]
    split <;> simp
  | false =>
    cases hf : o.failed with
    | true =>
      rw [State.healthUpdate_of_failed s i hf, if_neg Bool.false_ne_true, if_pos rfl]
      simp only [apply_ite (State.station · i), State.raise_station, ite_self, State.withStation_station]
    | false => rw [State.healthUpdate_of_neither s i ha hf, if_neg Bool.false_ne_true, if_neg Bool.false_ne_true]

theorem State.probeToggle_station (src : Source) (o : LineOutcome) : (s.probeToggle i src o).station i =
    if src.isProbe = true ∧ o.failed = true ∧ s.arrangement = .paired ∧ (s.station i).config.alternate = .other ∧
        (s.station i).health = .offline then
      { s.station i with line := (s.station i).line.other }
    else s.station i := by
  rw [State.probeToggle_eq]
  split <;> simp

/-! ### The subject's attention record -/

@[simp] theorem State.lineChange_attn (p : PortId) (j : Fin 64) : (s.lineChange i p).attn j = s.attn j := by
  rw [State.lineChange_eq]; split <;> simp

@[simp] theorem State.faultChange_attn (t : Status) (now : Stamp) (j : Fin 64) :
    (s.faultChange i t now).attn j = s.attn j := by
  rw [State.faultChange_eq]; split <;> simp

@[simp] theorem State.healthUpdate_attn (o : LineOutcome) (j : Fin 64) : (s.healthUpdate i o).attn j = s.attn j := by
  unfold State.healthUpdate State.stationNotice
  dsimp only
  (repeat' split) <;> simp

@[simp] theorem State.probeToggle_attn (src : Source) (o : LineOutcome) (j : Fin 64) :
    (s.probeToggle i src o).attn j = s.attn j := by
  rw [State.probeToggle_eq]; split <;> simp

/-- What a class makes of a record found CLEAR or PENDING, at a station of a configuration under a mask (R88). -/
def Attention.ofClass (c : StationConfig) (mask : Fin 8) (cls : Fin 3) : Attention :=
  if cls = 0 then .none
  else if c.mode = .host ∧ (effectiveLevel c cls = 8 ∨ mask.val < (effectiveLevel c cls).val) then
    ⟨.escalated, effectiveLevel c cls, cls⟩
  else ⟨.pending, effectiveLevel c cls, cls⟩

/-- What a reply status makes of a record (R89). -/
def Attention.afterStatus (r : Attention) (c : StationConfig) (mask : Fin 8) (src : Source) (t : Status) : Attention :=
  match r.state with
  | .clear => .ofClass c mask t.cls
  | .pending => .ofClass c mask t.cls
  | .acking => match src with
    | .acknowledge => if t.busy then r else .ofClass c mask t.cls
    | _ => r
  | _ => r

theorem State.takeClass_attn (cls : Fin 3) :
    (s.takeClass i cls).attn i = .ofClass (s.station i).config s.mask cls := by
  unfold State.takeClass State.escalationCheck Attention.ofClass
  split
  · simp
  · simp only [State.setAttn_attn, State.setAttn_station, State.eligible, State.setAttn_mask, decide_eq_true_eq]
    split <;> simp

theorem State.takeStatus_attn (src : Source) (t : Status) :
    (s.takeStatus i src t).attn i = (s.attn i).afterStatus (s.station i).config s.mask src t := by
  unfold State.takeStatus Attention.afterStatus
  cases (s.attn i).state with
  | clear => exact s.takeClass_attn i t.cls
  | pending => exact s.takeClass_attn i t.cls
  | acking =>
    cases src with
    | acknowledge =>
      dsimp only
      split
      · rfl
      · exact s.takeClass_attn i t.cls
    | _ => rfl
  | _ => rfl

theorem State.takeReply_attn (src : Source) (r : ReplyStatus) : (s.takeReply i src r).attn i =
    (s.attn i).afterStatus (s.station i).config s.mask src r.status := by
  have hc := ((OnStation.lineChange s r.port).trans (OnStation.faultChange (i := i) _ r.status r.time)).config
  have hm := ((EngineFrame.lineChange s i r.port).trans (EngineFrame.faultChange _ i r.status r.time)).mask
  rw [State.takeReply, State.takeStatus_attn, hc, hm, State.faultChange_attn, State.lineChange_attn]

/-- Of a run of operations each of which makes of a station's attention record what the Arbiter makes of a reply status. -/
theorem State.foldl_attn {f : State → ReplyStatus → State} {src : Source}
    (hf : ∀ s r, (f s r).attn i = (s.attn i).afterStatus (s.station i).config s.mask src r.status ∧
      ((f s r).station i).config = (s.station i).config ∧ (f s r).mask = s.mask) (rs : List ReplyStatus) :
    (rs.foldl f s).attn i = rs.foldl (fun x r => x.afterStatus (s.station i).config s.mask src r.status) (s.attn i) := by
  induction rs generalizing s with
  | nil => rfl
  | cons r rs ih =>
    obtain ⟨ha, hc, hm⟩ := hf s r
    rw [List.foldl_cons, ih (f s r), ha, hc, hm]
    rfl

/-- The replies leave the attention record that the Arbiter alone makes of their statuses (R27). -/
theorem State.afterReplies_attn (t : Transaction) : (s.afterReplies t).attn t.subject =
    (t.statuses.foldl (fun x r => x.takeStatus t.subject t.source r.status) s).attn t.subject := by
  rw [State.afterReplies, State.foldl_attn (src := t.source), State.foldl_attn (src := t.source)]
  · exact fun s r => ⟨s.takeStatus_attn _ _ _, (OnStation.takeStatus s t.source r.status).config,
      (EngineFrame.takeStatus s _ _ _).mask⟩
  · exact fun s r => ⟨s.takeReply_attn _ _ _, (OnStation.takeReply s t.source r).config, (EngineFrame.takeReply s _ _ _).mask⟩

/-! ### The results -/

/-- The state behind the replies and the health update of a transaction. -/
def State.afterHealth (s : State) (t : Transaction) (o : LineOutcome) : State := (s.afterReplies t).healthUpdate t.subject o

/-- The state behind the OFFLINE effects as well (R92). -/
def State.afterOffline (s : State) (t : Transaction) (o : LineOutcome) : State :=
  if ((s.afterHealth t o).station t.subject).health = .offline then (s.afterHealth t o).offlineEffects t.subject
  else s.afterHealth t o

theorem State.stationResults_eq (t : Transaction) (o : LineOutcome) : s.stationResults t o =
    ((s.afterOffline t o).probeToggle t.subject t.source o).withStation t.subject fun st =>
      { st with inTransaction := none } := rfl

theorem State.afterOffline_station (t : Transaction) (o : LineOutcome) :
    (s.afterOffline t o).station t.subject = (s.afterHealth t o).station t.subject := by
  unfold State.afterOffline
  split
  · exact State.offlineEffects_station _ _
  · rfl

theorem State.afterOffline_attn (t : Transaction) (o : LineOutcome) : (s.afterOffline t o).attn t.subject =
    if ((s.afterHealth t o).station t.subject).health = .offline ∧ ((s.afterReplies t).attn t.subject).state ≠ .held then .none
    else (s.afterReplies t).attn t.subject := by
  have hattn : (s.afterHealth t o).attn t.subject = (s.afterReplies t).attn t.subject := State.healthUpdate_attn _ _ _ _
  unfold State.afterOffline State.offlineEffects
  rw [hattn]
  by_cases h1 : ((s.afterHealth t o).station t.subject).health = .offline
  · by_cases h2 : ((s.afterReplies t).attn t.subject).state = .held <;> simp [h1, h2, hattn]
  · simp [h1, hattn]

/-- Health is the health update's: the steps behind it leave it. -/
theorem State.stationResults_health (t : Transaction) (o : LineOutcome) :
    ((s.stationResults t o).station t.subject).health = ((s.afterHealth t o).station t.subject).health := by
  rw [State.stationResults_eq, State.withStation_station, State.probeToggle_station, ← State.afterOffline_station]
  split <;> rfl

theorem State.stationResults_attn (t : Transaction) (o : LineOutcome) : (s.stationResults t o).attn t.subject =
    if ((s.stationResults t o).station t.subject).health = .offline ∧ ((s.afterReplies t).attn t.subject).state ≠ .held then .none
    else (s.afterReplies t).attn t.subject := by
  rw [State.stationResults_health, ← State.afterOffline_attn, State.stationResults_eq, State.withStation_attn,
    State.probeToggle_attn]

/-! #### The results leave the claims alone -/

@[simp] theorem State.takeClass_claims (cls : Fin 3) : (s.takeClass i cls).claims = s.claims := by
  unfold State.takeClass State.escalationCheck; (repeat' split) <;> rfl

theorem State.takeReply_claims (src : Source) (r : ReplyStatus) : (s.takeReply i src r).claims = s.claims := by
  have hline : (s.lineChange i r.port).claims = s.claims := by rw [State.lineChange_eq]; split <;> simp
  have hfault : ∀ u : State, (u.faultChange i r.status r.time).claims = u.claims := fun u => by
    rw [State.faultChange_eq]; split <;> simp
  unfold State.takeReply State.takeStatus
  (repeat' split) <;> simp only [State.takeClass_claims, hfault, hline]

theorem State.stationResults_claims (t : Transaction) (o : LineOutcome) : (s.stationResults t o).claims = s.claims := by
  have hreplies : (s.afterReplies t).claims = s.claims := by
    unfold State.afterReplies
    induction t.statuses generalizing s with
    | nil => rfl
    | cons r rs ih => rw [List.foldl_cons, ih, State.takeReply_claims]
  have hhealth : (s.afterHealth t o).claims = s.claims := by
    rw [← hreplies]
    unfold State.afterHealth State.healthUpdate State.stationNotice
    dsimp only
    (repeat' split) <;> simp
  have hoffline : (s.afterOffline t o).claims = s.claims := by
    rw [← hhealth]
    unfold State.afterOffline State.offlineEffects
    (repeat' split) <;> rfl
  rw [State.stationResults_eq, State.withStation_claims, State.probeToggle_eq, ← hoffline]
  split <;> rfl

/-! #### The subject's record behind the results -/

theorem State.afterHealth_station (t : Transaction) (o : LineOutcome) : (s.afterHealth t o).station t.subject =
    ((s.station t.subject).afterReplies t.statuses).afterOutcome o := by
  rw [State.afterHealth, State.healthUpdate_station, State.afterReplies_station]

theorem State.afterOffline_arrangement (t : Transaction) (o : LineOutcome) : (s.afterOffline t o).arrangement = s.arrangement := by
  have hreplies : EngineFrame s (s.afterReplies t) := EngineFrame.foldl _ (fun s r => EngineFrame.takeReply s _ _ r) _ s
  have hhealth := hreplies.trans (EngineFrame.healthUpdate _ t.subject o)
  exact (hhealth.trans (EngineFrame.ite (EngineFrame.offlineEffects _ _) (EngineFrame.refl _))).arrangement

/-- The subject's record: its replies, its outcome, the line of a failed probe, and no transaction (R27). -/
theorem State.stationResults_record (t : Transaction) (o : LineOutcome) :
    let st := ((s.station t.subject).afterReplies t.statuses).afterOutcome o
    (s.stationResults t o).station t.subject = { st with
      inTransaction := none
      line := if t.source.isProbe = true ∧ o.failed = true ∧ s.arrangement = .paired ∧ st.config.alternate = .other ∧
          st.health = .offline then st.line.other else st.line } := by
  intro st
  have hst : (s.afterOffline t o).station t.subject = st := by rw [State.afterOffline_station, State.afterHealth_station]
  rw [State.stationResults_eq, State.withStation_station, State.probeToggle_station, hst, State.afterOffline_arrangement]
  split <;> rfl

end

theorem Station.afterReplies_kept (st : Station) (rs : List ReplyStatus) :
    (st.afterReplies rs).config = st.config ∧ (st.afterReplies rs).failCount = st.failCount ∧
      (st.afterReplies rs).health = st.health := by
  unfold Station.afterReplies
  cases rs.getLast? <;> exact ⟨rfl, rfl, rfl⟩

theorem Station.afterOutcome_kept (st : Station) (o : LineOutcome) :
    (st.afterOutcome o).config = st.config ∧ (st.afterOutcome o).line = st.line ∧ (st.afterOutcome o).last = st.last ∧
      (st.afterOutcome o).lastContact = st.lastContact := by
  unfold Station.afterOutcome
  (repeat' split) <;> exact ⟨rfl, rfl, rfl, rfl⟩

/-- Health and fail count behind an outcome (R28). -/
theorem Station.afterOutcome_counts (st : Station) (o : LineOutcome) :
    (o.answered = true → (st.afterOutcome o).failCount = 0 ∧ (st.afterOutcome o).health = .online) ∧
    (o.failed = true → (st.afterOutcome o).failCount.val = min 3 (st.failCount.val + 1) ∧
      (st.afterOutcome o).health = if 2 ≤ st.failCount.val then .offline else .suspect) ∧
    (o.answered = false → o.failed = false → (st.afterOutcome o).failCount = st.failCount ∧
      (st.afterOutcome o).health = st.health) := by
  unfold Station.afterOutcome
  refine ⟨fun ha => by rw [if_pos ha]; exact ⟨rfl, rfl⟩, fun hf => ?_, fun ha hf => ?_⟩
  · have ha : o.answered = false := by cases o <;> first | rfl | cases hf
    rw [if_neg (by simp [ha]), if_pos hf]
    exact ⟨Nat.mod_eq_of_lt (by omega), rfl⟩
  · rw [if_neg (by simp [ha]), if_neg (by simp [hf])]
    exact ⟨rfl, rfl⟩

/-- The first of a transaction's replies is taken (R27, step 1), and then the rest. -/
theorem State.stationResults_of_reply (s : State) (t : Transaction) (o : LineOutcome) (r : ReplyStatus) (rest : List ReplyStatus)
    (h : t.statuses = r :: rest) :
    let i := t.subject
    let st := s.station i
    let moved : State := if st.line = r.port then s
      else (s.withStation i fun x => { x with line := r.port }).raise
        (.stationState i .lineChanged st.health r.port st.last)
    let taken : State := moved.withStation i fun x => { x with last := r.status, lastContact := r.time }
    let told : State := if r.status.fault = st.last.fault then taken
      else taken.raise (.stationState i (if r.status.fault then .faultSet else .faultCleared) st.health r.port r.status)
    s.stationResults t o = (told.takeStatus i t.source r.status).stationResults { t with statuses := rest } o := by
  intro i st moved taken told
  have hmoved : s.lineChange i r.port = moved := s.lineChange_eq i r.port
  have hstation : moved.station i = { st with line := r.port } := hmoved ▸ s.lineChange_station i r.port
  have htold : moved.faultChange i r.status r.time = told := by rw [State.faultChange_eq, hstation]
  rw [State.stationResults_cons s t o r rest h, State.takeReply, hmoved, htold]

/-- With no reply left, the steps of R27 behind the replies (R28, R92, R31, R26). -/
theorem State.stationResults_of_no_reply (s : State) (t : Transaction) (o : LineOutcome) (h : t.statuses = []) :
    let i := t.subject
    let st := s.station i
    let health : Health := if o.answered then .online
      else if o.failed then (if 2 ≤ st.failCount.val then .offline else .suspect) else st.health
    let scored : State := if o.answered then s.withStation i fun x => { x with failCount := 0, health := .online }
      else if o.failed then s.withStation i fun x =>
        { x with failCount := Fin.ofNat 4 (min 3 (st.failCount.val + 1)), health := health }
      else s
    let told : State :=
      if o.answered = true ∧ st.health = .offline then scored.raise (.stationState i .online .online st.line st.last)
      else if o.failed = true ∧ st.health ≠ .offline ∧ health = .offline then
        scored.raise (.stationState i .offline .offline st.line st.last)
      else scored
    let cleared : State := if health = .offline ∧ (s.attn i).state ≠ .held then told.setAttn i ⟨.clear, 0, 0⟩ else told
    let toggled : State :=
      if t.source.isProbe = true ∧ o.failed = true ∧ s.arrangement = .paired ∧ st.config.alternate = .other ∧ health = .offline then
        cleared.withStation i fun x => { x with line := st.line.other }
      else cleared
    s.stationResults t o = toggled.withStation i fun x => { x with inTransaction := none } := by
  intro i st health scored told cleared toggled
  have hreplies : s.afterReplies t = s := by rw [State.afterReplies, h]; rfl
  have hstation : (s.afterHealth t o).station i = st.afterOutcome o := by rw [State.afterHealth_station, h]; rfl
  have hhealth : (st.afterOutcome o).health = health := by
    unfold Station.afterOutcome
    simp only [health]
    (repeat' split) <;> rfl
  have htold : s.afterHealth t o = told := by
    rw [State.afterHealth, hreplies]
    change s.healthUpdate i o = told
    cases ha : o.answered with
    | true =>
      have hf : o.failed = false := by cases o <;> first | rfl | cases ha
      simp only [State.healthUpdate_of_answered s i ha, told, scored, ha, hf, if_true, true_and, Bool.false_eq_true, false_and, if_false]
      rfl
    | false =>
      cases hf : o.failed with
      | true =>
        simp only [State.healthUpdate_of_failed s i hf, told, scored, health, ha, hf, if_true, true_and, Bool.false_eq_true,
          false_and, if_false]
        rfl
      | false =>
        simp only [State.healthUpdate_of_neither s i ha hf, told, scored, ha, hf, Bool.false_eq_true, false_and, if_false]
  have hcleared : s.afterOffline t o = cleared := by
    have hattn : (s.afterHealth t o).attn i = s.attn i := by
      rw [State.afterHealth, hreplies]
      exact State.healthUpdate_attn _ _ _ _
    unfold State.afterOffline State.offlineEffects
    rw [hattn, hstation, hhealth, htold]
    by_cases h1 : health = .offline
    · by_cases h2 : (s.attn i).state = .held
      · simp only [cleared, h1, h2, if_true, ne_eq, not_true_eq_false, and_false, if_false]
      · simp only [cleared, h1, h2, if_true, ne_eq, not_false_eq_true, and_self, if_false]
        rfl
    · simp only [cleared, h1, if_false, false_and]
  have hrecord : (s.afterOffline t o).station i = st.afterOutcome o := by rw [State.afterOffline_station, hstation]
  obtain ⟨hconfig, hline, _⟩ := st.afterOutcome_kept o
  rw [State.stationResults_eq, State.probeToggle_eq, hrecord, State.afterOffline_arrangement, hconfig, hhealth, hcleared]
  rw [hcleared] at hrecord
  have hother : cleared.withStation i (fun x => { x with line := x.line.other }) =
      cleared.withStation i fun x => { x with line := st.line.other } :=
    State.withStation_congr (by rw [hrecord, hline])
  rw [hother]

/-- Settles O46: the operations of R27 by their equations, and the subject's two records by what each of them makes of it. -/
theorem resultsReachTheStation : Obligations.ResultsReachTheStation := by
  intro s tr o i u st failed answered isProbe record
  have hfailed : failed = o.failed := Bool.eq_iff_iff.mpr (decide_eq_true_iff.trans o.failed_iff.symm)
  have hanswered : answered = o.answered := Bool.eq_iff_iff.mpr (decide_eq_true_iff.trans o.answered_iff.symm)
  have hprobe : isProbe = tr.source.isProbe := rfl
  have on : OnStation i s u := OnStation.stationResults s tr o
  have hrecord : (s.afterReplies tr).attn i = record := s.afterReplies_attn tr
  have hu := s.stationResults_record tr o
  obtain ⟨hc1, hf1, hh1⟩ := Station.afterReplies_kept st tr.statuses
  obtain ⟨hc2, hl2, hs2, ht2⟩ := Station.afterOutcome_kept (st.afterReplies tr.statuses) o
  obtain ⟨hans, hfail, hnone⟩ := Station.afterOutcome_counts (st.afterReplies tr.statuses) o
  rw [hf1] at hfail hnone
  rw [hh1] at hnone
  rw [hfailed, hanswered, hprobe]
  change u.station i = _ at hu
  refine ⟨?_, ?_, on.config, State.stationResults_inTransaction s tr o, ?_, ?_, ?_, ?_, ?_, ?_, on.others, on.engine .a,
    on.engine .b, on.pairs, on.descriptors, State.stationResults_claims s tr o, on.stack, on.port .a, on.port .b⟩
  · exact fun r rest hr => s.stationResults_of_reply tr o r rest hr
  · exact fun h => s.stationResults_of_no_reply tr o h
  · rw [hu]; exact hans
  · rw [hu]; exact hfail
  · rw [hu]; exact hnone
  · rw [hu]
    dsimp only
    rw [hs2, ht2]
    unfold Station.afterReplies
    cases tr.statuses.getLast? <;> rfl
  · intro line toggles
    have hline : ((st.afterReplies tr.statuses).afterOutcome o).line = line := by
      rw [hl2]
      unfold Station.afterReplies
      simp only [line]
      cases tr.statuses.getLast? <;> rfl
    have hconfig : ((st.afterReplies tr.statuses).afterOutcome o).config = st.config := hc2.trans hc1
    have hul : (u.station i).line = if toggles then line.other else line := by
      have hhealth := congrArg Station.health hu
      have := congrArg Station.line hu
      dsimp only at hhealth this
      rw [this, hline, ← hhealth, hconfig]
    exact ⟨fun ht => hul.trans (if_pos ht), fun ht => hul.trans (if_neg ht)⟩
  · rw [← hrecord]
    exact s.stationResults_attn tr o

end Sys2Proof.Machine
end

section
/-!
A transaction's end as one event (O45): each step of R70 as an equation, and what the steps before it leave of the engine.
-/

namespace Sys2Proof.Machine

/-! ### What the results' steps leave of an engine (R70, steps 1 to 5) -/

/-- An engine's run state, timer, cycle number and demands are the same. -/
structure SameCycle (e : Engine) (s t : State) : Prop where
  run : (t.engine e).run = (s.engine e).run
  timer : (t.engine e).timer = (s.engine e).timer
  cycle : (t.engine e).cycle = (s.engine e).cycle
  demands : (t.engine e).demands = (s.engine e).demands

namespace SameCycle
variable {e : Engine}

theorem of_engine {s t : State} (h : t.engine e = s.engine e) : SameCycle e s t := by
  constructor <;> rw [h]

theorem refl (s : State) : SameCycle e s s := of_engine rfl

theorem trans {s t u : State} (h : SameCycle e s t) (k : SameCycle e t u) : SameCycle e s u :=
  ⟨k.run.trans h.run, k.timer.trans h.timer, k.cycle.trans h.cycle, k.demands.trans h.demands⟩

theorem withEngine {s : State} {g : EngineState → EngineState} (hr : (g (s.engine e)).run = (s.engine e).run)
    (ht : (g (s.engine e)).timer = (s.engine e).timer) (hc : (g (s.engine e)).cycle = (s.engine e).cycle)
    (hd : (g (s.engine e)).demands = (s.engine e).demands) : SameCycle e s (s.withEngine e g) := by
  constructor <;> rwa [State.withEngine_engine]

theorem flip (s : State) (x : Engine) (p : Fin 16) (c : FlipCause) : SameCycle e s (s.flip x p c) := by
  obtain ⟨r, h, -⟩ := s.flip_records x p c
  exact of_engine ((h.engine e).trans (State.setPair_engine s p r e))

theorem completeTransfer (s : State) (x : Engine) (i : Fin 64) (d : Fin 32) : SameCycle e s (s.completeTransfer x i d) := by
  have advanced : SameCycle e s (s.setDescriptor d (s.descriptor d).advance) := of_engine (State.setDescriptor_engine _ _ _ _)
  have wrapped : ∀ u : State, SameCycle e u
      (if (s.descriptor d).wraps then u.flip x (s.descriptor d).pair (.descriptorWrap d) else u) := fun u => by
    split
    · exact flip _ _ _ _
    · exact refl _
  have acted : ∀ u : State, SameCycle e u (if (u.attn i).state = .serving then u.endAction i (s.descriptor d).endAction else u) :=
    fun u => by
      split
      · exact of_engine (State.setAttn_engine _ _ _ _)
      · exact refl _
  unfold State.completeTransfer
  dsimp only
  split
  · split
    · exact ((advanced.trans (wrapped _)).trans (acted _)).trans (flip _ _ _ _)
    · exact (advanced.trans (wrapped _)).trans (acted _)
  · exact advanced.trans (wrapped _)

theorem sourceCompletion (s : State) (t : Transaction) (o : LineOutcome) : SameCycle e s (s.sourceCompletion e t o) := by
  have ended : SameCycle e s (s.endSweep e) := withEngine rfl rfl rfl rfl
  unfold State.sourceCompletion State.sweepStepEnd
  cases t.source with
  | transfer d =>
    have completed : SameCycle e s (if o = .good then s.completeTransfer e t.subject d else s) := by
      split
      · exact completeTransfer _ _ _ _
      · exact refl _
    exact completed.trans (of_engine (State.setClaim_engine _ _ _ _))
  | sweep =>
    dsimp only
    split
    · exact ended
    · split
      · exact ended
      · exact refl _
  | demand q => exact of_engine ((SameRecords.raise _ _).engine e)
  | _ => exact refl _

theorem slotFlip (s : State) (t : Transaction) : SameCycle e s (s.slotFlip e t) := by
  unfold State.slotFlip
  (repeat' split) <;> first | exact flip _ _ _ _ | exact refl _

theorem tallyFailed (s : State) (o : LineOutcome) : SameCycle e s (s.tallyFailed e o) := by
  unfold State.tallyFailed
  split
  · exact withEngine rfl rfl rfl rfl
  · exact refl _

end SameCycle

/-! ### The steps, as equations -/

/-- R122, word by word: the words are written into the half that is the fill half, and the stamp is of this moment. -/
theorem State.captureWords_eq (s : State) (p : Fin 16) (start : Nat) (ws : List Word) :
    let r := s.pair p
    let put : Vector Word 128 → Vector Word 128 := fun v => Vector.ofFn fun k =>
      if start ≤ k.val then (ws[k.val - start]?).getD v[k] else v[k]
    s.captureWords p start ws = s.setPair p (match r.working with
      | .zero => { r with half0 := put r.half0, captureStamp := s.time }
      | .one => { r with half1 := put r.half1, captureStamp := s.time }) := by
  intro r put
  have hput : ∀ v, writeWords v start ws = put v := fun v => by
    refine Vector.ext fun k hk => ?_
    have := getElem_writeWords v start ws ⟨k, hk⟩
    simpa [put] using this
  unfold State.captureWords
  cases hw : r.working <;> simp only [r] at hw <;> simp only [hw, Pair.setHalf, Pair.half, hput, r]

theorem State.deliverWords_engine (s : State) (t : Transaction) (o : LineOutcome) (e : Engine) :
    (s.deliverWords t o).engine e = s.engine e := by
  unfold State.deliverWords State.captureWords
  (repeat' split) <;> first | exact State.setPair_engine _ _ _ _ | rfl

/-- The search of R99 finds no station exactly when there is none at which it stops. -/
theorem State.sweepSearch_isNone (s : State) (e : Engine) (passed : List (Fin 64)) :
    (s.sweepSearch e passed).isNone = !(List.finRange 64).any (s.sweepFit e passed) := by
  have hmem : ∀ j : Fin 64, j ∈ (List.range 64).map fun k => (s.engine e).cursor + Fin.ofNat 64 k := fun j =>
    List.mem_map.mpr ⟨(j - (s.engine e).cursor).val, List.mem_range.mpr (j - (s.engine e).cursor).isLt, by simp⟩
  rw [Bool.eq_iff_iff, Option.isNone_iff_eq_none, State.sweepSearch, List.find?_eq_none]
  constructor
  · intro h
    simpa using fun j => h j (hmem j)
  · intro h j _
    simpa using (by simpa using h : ∀ j, s.sweepFit e passed j = false) j

/-- A transaction's engine is in GAP, or stops where a pending stop waits for this end (R55, R47, R48). -/
theorem State.leaveTransaction_eq (s : State) (e : Engine) (p : PortId) :
    let left : State := s.withEngine e fun en => { en with
      next := if en.started then en.next + 1 else en.next, started := false, activity := .gap p }
    let halted : State := left.withEngine e fun en => { en with
      run := .stopped, timer := none, activity := .none, callPending := false, cursor := 0, visited := []
      tallies := ⟨0, 0, 0, 0, 0, 0, 0⟩ }
    s.leaveTransaction e p = match (s.engine e).run with
      | .running => left
      | .stopped => left
      | .stopping .afterCycle =>
        if (s.engine e).timer = none then halted.raise (.lineStopped e .afterCycle (s.engine e).cycle) else left
      | .stopping .afterTransaction => halted.raise (.lineStopped e .afterTransaction (s.engine e).cycle)
      | .stopping .abort => (halted.withEngine e fun en => { en with demands := [] }).raiseAll
          (((s.engine e).demands.map fun q =>
            .demandResult q.tag e q.station q.kind .discarded 0 (halted.station q.station).last []) ++
              [.lineStopped e .abort (s.engine e).cycle]) := by
  intro left halted
  have hleft : left.engine e = { s.engine e with
      next := if (s.engine e).started then (s.engine e).next + 1 else (s.engine e).next, started := false, activity := .gap p } :=
    State.withEngine_engine _ _ _
  have hrun : (left.engine e).run = (s.engine e).run := by rw [hleft]
  have htimer : (left.engine e).timer = (s.engine e).timer := by rw [hleft]
  have hcycle : (left.engine e).cycle = (s.engine e).cycle := by rw [hleft]
  have hhalted : left.withEngine e EngineState.halt = halted := by
    simp only [left, halted, State.withEngine_withEngine]
    rfl
  have hstops : ∀ mode, mode ≠ .abort → left.stopEngine e mode = halted.raise (.lineStopped e mode (s.engine e).cycle) :=
    fun mode hm => by
      rw [State.stopEngine, if_neg hm, hhalted, ← hcycle, State.withEngine_engine]
  change (match (left.engine e).run with
    | .stopping .afterTransaction => left.stopEngine e .afterTransaction
    | .stopping .afterCycle => if (left.engine e).timer.isNone then left.stopEngine e .afterCycle else left
    | .stopping .abort => left.stopEngine e .abort
    | .running => left
    | .stopped => left) = _
  rw [hrun]
  cases (s.engine e).run with
  | running => rfl
  | stopped => rfl
  | stopping mode =>
    cases mode with
    | afterTransaction => exact hstops _ (by decide)
    | afterCycle =>
      dsimp only
      rw [htimer, hstops _ (by decide)]
      exact ite_congr (propext Option.isNone_iff_eq_none) (fun _ => rfl) fun _ => rfl
    | abort =>
      have hdemands : (left.engine e).demands = (s.engine e).demands := by rw [hleft]
      dsimp only
      have hemptied : (left.withEngine e fun en => { en.halt with demands := [] }) =
          halted.withEngine e fun en => { en with demands := [] } :=
        (State.withEngine_withEngine left e EngineState.halt fun en => { en with demands := [] }).symm.trans
          (congrArg (fun u : State => u.withEngine e _) hhalted)
      rw [State.stopEngine_abort, hemptied, hdemands, hcycle]
      simp only [halted, State.withEngine_station]

/-- The end of a sweep step, with the stations at which the search stops written out (R99, R100). -/
theorem State.sweepStepEnd_eq (s : State) (e : Engine) (t : Transaction) :
    let visits : Fin 64 → Bool := fun j => decide ((s.station j).config.sweepMember = true ∧
      (s.station j).config.enabled = true ∧ engineFor s.arrangement (s.station j).config.home = e ∧
      (s.station j).health ≠ .offline ∧ (s.station j).inTransaction = none ∧
      (s.attn j).state = .clear ∧ j ∉ (s.engine e).visited)
    s.sweepStepEnd e t =
      if (t.statuses.any fun x => decide (x.status.cls ≠ 0)) || !(List.finRange 64).any visits then
        s.withEngine e fun en => { en with callPending := false, visited := [] }
      else s := by
  intro visits
  have hscope : ∀ j, scopeOf s.arrangement (s.station j).config = engineFor s.arrangement (s.station j).config.home := fun j => by
    cases s.arrangement <;> rfl
  have hvisits : s.sweepFit e [] = visits := funext fun j => by
    simp [State.sweepFit, State.candidate, State.inScope, visits, hscope, Bool.and_assoc]
  rw [State.sweepStepEnd, State.sweepSearch_isNone, hvisits]
  cases t.statuses.any fun x => decide (x.status.cls ≠ 0) <;> cases (List.finRange 64).any visits <;> rfl

/-- Settles O45: R70's steps by their equations, in its order. -/
theorem transactionEndIsOneEvent : Obligations.TransactionEndIsOneEvent := by
  intro s e t o port i fill delivered resulted visits completed slotFlip flipped counted origin handed left halted
  have hdelivered : s.deliverWords t o = delivered := by
    unfold State.deliverWords
    refine ite_congr rfl (fun _ => ?_) fun _ => rfl
    cases t.source <;> first | exact State.captureWords_eq s _ _ _ | rfl
  have hframe : EngineFrame s resulted := by
    have hwords := EngineFrame.deliverWords s t o
    rw [hdelivered] at hwords
    exact hwords.trans (EngineFrame.stationResults _ t o)
  have hengine : resulted.engine e = s.engine e := by
    have hon : OnStation t.subject delivered resulted := OnStation.stationResults delivered t o
    rw [hon.engine, ← hdelivered, State.deliverWords_engine]
  have hcompleted : resulted.sourceCompletion e t o = completed := by
    unfold State.sourceCompletion
    simp only [completed]
    cases hsource : t.source with
    | sweep => simpa only [visits, hframe.arrangement, hengine] using resulted.sweepStepEnd_eq e t
    | transfer d => rw [State.sourceCompletion, hsource]
    | _ => rfl
  have hflipped : completed.slotFlip e t = flipped := by
    unfold State.slotFlip
    simp only [flipped]
    cases t.source <;> simp [FixedFields.flips, slotFlip]
  have hkept : SameCycle e s flipped := by
    have hsource := SameCycle.sourceCompletion (e := e) resulted t o
    have hslot := SameCycle.slotFlip (e := e) completed t
    rw [hcompleted] at hsource
    rw [hflipped] at hslot
    exact (SameCycle.of_engine hengine).trans (hsource.trans hslot)
  have hcounted : flipped.tallyFailed e o = counted := by
    unfold State.tallyFailed
    rw [hkept.timer]
    refine ite_congr (propext (and_congr o.failed_iff ?_)) (fun _ => rfl) fun _ => rfl
    rw [Option.isSome_iff_ne_none]
  have hhanded : counted.handOverResults t (s.attn i).state = handed := by
    have horigin : t.source.origin = origin := by
      simp only [origin]
      cases t.source <;> rfl
    rw [State.handOverResults_eq, horigin]
  have hended : s.endTransaction e t o port = handed.leaveTransaction e port := by
    rw [State.endTransaction, hdelivered]
    change ((((resulted.sourceCompletion e t o).slotFlip e t).tallyFailed e o).handOverResults t (s.attn i).state).leaveTransaction
      e port = _
    rw [hcompleted, hflipped, hcounted, hhanded]
  have hclock : SameCycle e s handed := by
    have hsame := SameRecords.handOverResults counted t (s.attn i).state
    have htally := SameCycle.tallyFailed (e := e) flipped o
    rw [hhanded] at hsame
    rw [hcounted] at htally
    exact hkept.trans (htally.trans (.of_engine (hsame.engine e)))
  have hleave := handed.leaveTransaction_eq e port
  dsimp only at hleave
  rw [hclock.run, hclock.timer, hclock.cycle, hclock.demands] at hleave
  exact hended.trans hleave

end Sys2Proof.Machine
end

section
/-!
The requests on the Station Table: STATION-SET, STATION-GET and ARRANGE (O15, O16, O17).
-/

namespace Sys2Proof.Machine

/-- A request with nothing in processing is answered by what its owner makes of it (R149). -/
theorem exec_of_handled {i : Instr} {f : Frame} {s : State} {h : Handled} (hi : requestFrame i = some f)
    (hp : s.processing = none) (hl : f.payload.length ≤ 250) (hh : (s.inDispatch f).handle f = h) :
    exec i s = .next (h.state.placeReply f h.reply s.tx) := by
  rw [exec_of_requestFrame hi, State.receiveFrame_idle s f hp hl, hh]

/-- A refused request changes nothing but what the link owns. -/
theorem exec_of_refused {i : Instr} {f : Frame} {s : State} {r : ResultCode} (hi : requestFrame i = some f)
    (hp : s.processing = none) (hl : f.payload.length ≤ 250) (hh : (s.inDispatch f).handle f = (s.inDispatch f).refuse r) :
    exec i s = .next (s.replied f ⟨r, []⟩) := by
  rw [exec_of_handled hi hp hl hh]
  exact congrArg Host.Outcome.next (State.inDispatch_placeReply s f _)

/-! ### STATION-GET -/

/-- Settles O16: the record and the state fields, byte by byte. -/
theorem stationGetReadsTheRecord : Obligations.StationGetReadsTheRecord := by
  intro s tag station hproc
  refine ⟨fun hbad => exec_of_refused rfl hproc (Nat.le_of_ble_eq_true rfl) ?_, ?_⟩
  · change State.doStationGet _ station = _
    rw [State.doStationGet, finOf_eq_none hbad]
  · rintro i rfl
    let u := s.inDispatch ⟨0x0E, tag, [byteOf i.val]⟩
    have handled : u.doStationGet (byteOf i.val) = u.ok ((u.station i).config.toBytes ++ u.stationState i) := by
      rw [State.doStationGet, finOf_byteOf i (by omega)]
    rw [exec_of_handled (i := .stationGet tag (byteOf i.val)) rfl hproc (Nat.le_of_ble_eq_true rfl) handled]
    refine congrArg Host.Outcome.next ((State.inDispatch_placeReply s _ _).trans ?_)
    have hscope : scopeOf s.arrangement (s.station i).config = engineFor s.arrangement (s.station i).config.home := by
      cases s.arrangement <;> rfl
    rw [← hscope]
    rfl

/-! ### STATION-SET -/

/-- A station record with a value outside its range is none (R19). -/
theorem StationConfig.ofBytes_eq_none {flags address level descriptor retries x y z : Byte} (h : address = 0 ∨ 127 < address.toNat ∨
    7 < level.toNat ∨ 31 < descriptor.toNat ∨ 3 < retries.toNat) :
    StationConfig.ofBytes [flags, address, level, descriptor, retries, x, y, z] = none := by
  unfold StationConfig.ofBytes
  dsimp only
  split
  · rename_i hl hd hr
    refine if_neg fun ha => ?_
    rcases h with h | h | h | h | h
    · subst h; exact absurd ha.1 (by decide)
    · omega
    · rw [finOf_eq_none h] at hl; cases hl
    · rw [finOf_eq_none h] at hd; cases hd
    · rw [finOf_eq_none h] at hr; cases hr
  · rfl

/-- The configuration that a flags byte, an address, a level, a descriptor and a retry count write (11.3). -/
def StationConfig.written (flags address : Byte) (lv : Fin 8) (d : Fin 32) (r : Fin 4) : StationConfig where
  enabled := flags.getLsbD 0
  address := address
  home := if flags.getLsbD 1 then .b else .a
  alternate := if flags.getLsbD 2 then .other else .none
  level := lv
  mode := if flags.getLsbD 3 then .descriptor else .host
  descriptor := d
  retries := r
  switchOnRetry := flags.getLsbD 4
  sweepMember := flags.getLsbD 5

theorem StationConfig.ofBytes_written (flags : Byte) {address : Byte} (h0 : address ≠ 0) (h127 : address.toNat ≤ 127)
    (lv : Fin 8) (d : Fin 32) (r : Fin 4) (x y z : Byte) :
    StationConfig.ofBytes [flags, address, byteOf lv.val, byteOf d.val, byteOf r.val, x, y, z] =
      some (.written flags address lv d r) := by
  have h1 : 1 ≤ address.toNat := Nat.pos_of_ne_zero fun h => h0 (BitVec.eq_of_toNat_eq h)
  simp only [StationConfig.ofBytes, finOf_byteOf lv (by omega), finOf_byteOf d (by omega), finOf_byteOf r (by omega)]
  exact if_pos ⟨h1, h127⟩

/-- A station is busy in a transaction, or in a service of its attention (R22, step 2). -/
theorem State.stationBusy_iff (s : State) (i : Fin 64) : s.stationBusy i = true ↔
    (s.station i).inTransaction ≠ none ∨ (s.attn i).state ≠ .clear ∧ (s.attn i).state ≠ .pending := by
  unfold State.stationBusy
  rw [Bool.or_eq_true, Option.isSome_iff_ne_none]
  cases (s.attn i).state <;> simp

theorem clash_iff (arr : Arrangement) (c d : StationConfig) : clash arr c d = true ↔
    c.enabled = true ∧ d.enabled = true ∧ c.address = d.address ∧ (arr = .independent → c.home = d.home) := by
  unfold clash sameScope
  cases arr <;> simp [and_assoc]

theorem State.duplicates_iff (s : State) (i : Fin 64) (c : StationConfig) : s.duplicates i c = true ↔
    ∃ j, j ≠ i ∧ clash s.arrangement c (s.station j).config = true := by
  simp [State.duplicates]

/-- STATION-SET of a record in range is answered by its two checks (R22). -/
theorem State.doStationSet_eq (s : State) {i : Fin 64} {record : List Byte} {c : StationConfig}
    (hc : StationConfig.ofBytes record = some c) : s.doStationSet (byteOf i.val) record =
      if s.stationBusy i = true then s.refuse .stationActive
      else if c.enabled = true ∧ s.duplicates i c = true then s.refuse .duplicateAddress
      else ((s.withStation i (Station.configured · c)).reconfigure i).ok [] := by
  rw [State.doStationSet, finOf_byteOf i (by omega), hc]

theorem State.setAttn_setAttn (s : State) (i : Fin 64) (r x : Attention) : (s.setAttn i r).setAttn i x = s.setAttn i x :=
  congrArg (fun v => { s with attention := v }) (Vector.set_set _ _)

/-- The Arbiter's response to a new configuration, by the record that stands (R91, R90). -/
theorem State.reconfigure_eq (s : State) (i : Fin 64) : s.reconfigure i =
    let c := (s.station i).config
    let level := effectiveLevel c (s.attn i).cls
    if c.enabled = false then s.setAttn i .none
    else if (s.attn i).state = .pending then
      if c.mode = .host ∧ (level = 8 ∨ s.mask.val < level.val) then
        (s.setAttn i ⟨.escalated, level, (s.attn i).cls⟩).handOver i .stationSet
      else s.setAttn i ⟨.pending, level, (s.attn i).cls⟩
    else s := by
  dsimp only
  unfold State.reconfigure State.reevaluate State.escalationCheck
  refine ite_congr rfl (fun _ => rfl) fun _ => ite_congr rfl (fun hp => ?_) fun _ => rfl
  simp only [State.setAttn_station, State.setAttn_attn, State.eligible, State.setAttn_mask, decide_eq_true_eq]
  split
  · rw [State.setAttn_setAttn, State.setAttn_attn]
    exact if_pos rfl
  · rw [State.setAttn_attn, hp]
    exact if_neg (by decide)

/-- A hand-over with its notice's items written out (R135). -/
theorem State.handOver_eq (s : State) (i : Fin 64) (o : Origin) : s.handOver i o =
    s.raiseAll (if s.serviceLevel < (s.attn i).level then
      [.escalation i (s.attn i).level (s.attn i).cls (s.station i).config.mode (some o)
        ((List.finRange 64).countP fun j => decide ((s.attn j).state = .escalated)) s.serviceLevel] else []) := by
  unfold State.handOver
  split <;> rfl

/-- The count of escalated records behind an entry into ESCALATED (R133). -/
theorem State.countP_escalated_setAttn (s : State) (i : Fin 64) {r : Attention} (h : r.state = .escalated) :
    ((List.finRange 64).countP fun j => decide (((s.setAttn i r).attn j).state = .escalated)) =
      (List.finRange 64).countP fun j => decide (j = i ∨ (s.attn j).state = .escalated) := by
  refine congrArg (List.countP · _) (funext fun j => decide_eq_decide.mpr ?_)
  by_cases hj : j = i
  · subst hj; simp [h]
  · rw [State.setAttn_attn_other s r hj]
    exact ⟨.inr, fun h => h.resolve_left hj⟩

/-- Settles O15: the checks by their conditions, and the accepted record by the Arbiter's response to it. -/
theorem stationSetIsCheckedAndWrites : Obligations.StationSetIsCheckedAndWrites := by
  constructor
  · intro s tag station flags address level descriptor retries hproc c f
    constructor
    · intro hbad
      refine exec_of_refused (f := f) rfl hproc (Nat.le_of_ble_eq_true rfl) ?_
      change State.doStationSet _ station _ = _
      unfold State.doStationSet
      obtain h | h := hbad
      · rw [finOf_eq_none h]
      · rw [StationConfig.ofBytes_eq_none h]
        cases finOf 64 station <;> rfl
    rintro i rfl h0 h127 hlevel hdescriptor hretries
    obtain ⟨lv, rfl⟩ : ∃ lv : Fin 8, level = byteOf lv.val := ⟨⟨level.toNat, by omega⟩, by simp [byteOf]⟩
    obtain ⟨d, rfl⟩ : ∃ d : Fin 32, descriptor = byteOf d.val := ⟨⟨descriptor.toNat, by omega⟩, by simp [byteOf]⟩
    obtain ⟨r, rfl⟩ : ∃ r : Fin 4, retries = byteOf r.val := ⟨⟨retries.toNat, by omega⟩, by simp [byteOf]⟩
    have handled := (s.inDispatch f).doStationSet_eq (i := i) (StationConfig.ofBytes_written flags h0 h127 lv d r 0 0 0)
    refine ⟨fun hbusy => ?_, ?_⟩
    · refine exec_of_refused (f := f) rfl hproc (Nat.le_of_ble_eq_true rfl) (handled.trans (if_pos ?_))
      exact ((s.inDispatch f).stationBusy_iff i).mpr hbusy
    · rintro hnone hstate henabled ⟨j, hj, hen, haddress, hhome⟩
      refine exec_of_refused (f := f) rfl hproc (Nat.le_of_ble_eq_true rfl) (handled.trans ((if_neg ?_).trans (if_pos ⟨henabled, ?_⟩)))
      · rw [State.stationBusy_iff]
        exact fun h => h.elim (fun h => h hnone) fun h => hstate.elim h.1 h.2
      · refine (State.duplicates_iff _ _ _).mpr ⟨j, hj, (clash_iff _ _ _).mpr ?_⟩
        exact ⟨henabled, hen, haddress.symm, fun h => (hhome h).symm⟩
  · intro s tag flags address i lv d r c hproc h0 h127 hnone hstate hnew f write level
    let u := s.inDispatch f
    have hbusy : ¬ u.stationBusy i = true := fun h =>
      ((u.stationBusy_iff i).mp h).elim (fun h => h hnone) fun h => hstate.elim h.1 h.2
    have hdup : ¬ (c.enabled = true ∧ u.duplicates i c = true) := fun ⟨he, h⟩ => by
      obtain ⟨j, hj, hclash⟩ := (u.duplicates_iff i c).mp h
      obtain ⟨-, hen, haddress, hhome⟩ := (clash_iff _ _ _).mp hclash
      obtain ⟨harr, hne⟩ := hnew he j hj hen haddress.symm
      exact hne (hhome harr).symm
    have handled : u.doStationSet (byteOf i.val) [flags, address, byteOf lv.val, byteOf d.val, byteOf r.val, 0, 0, 0] =
        ((write u).reconfigure i).ok [] :=
      (u.doStationSet_eq (StationConfig.ofBytes_written flags h0 h127 lv d r 0 0 0)).trans
        ((if_neg hbusy).trans (if_neg hdup))
    rw [exec_of_handled (f := f) rfl hproc (Nat.le_of_ble_eq_true rfl) handled]
    have hconfig : ((write u).station i).config = c := congrArg Station.config (State.withStation_station _ _ _)
    have hattn : (write u).attn i = s.attn i := State.withStation_attn _ _ _ _
    have quiet : ∀ x, ((write u).setAttn i x).placeReply f ⟨.ok, []⟩ s.tx =
        ((write s).setAttn i x).replied f ⟨.ok, []⟩ := fun x =>
      State.placeReply_of_quiet s f _ (fun v => (write v).setAttn i x) rfl rfl
    rw [State.reconfigure_eq, hconfig, hattn]
    refine congrArg Host.Outcome.next ?_
    change State.placeReply (if c.enabled = false then _ else if (s.attn i).state = .pending then
      if c.mode = .host ∧ (level = 8 ∨ s.mask.val < level.val) then _ else _ else _) f ⟨.ok, []⟩ _ = _
    by_cases henabled : c.enabled = false
    · rw [if_pos henabled, if_pos henabled]
      exact quiet .none
    rw [if_neg henabled, if_neg henabled]
    obtain hclear | hpending := hstate
    · have hnotpending : (s.attn i).state ≠ .pending := by simp [hclear]
      rw [if_neg hnotpending, if_pos hclear]
      exact State.placeReply_of_quiet s f _ write rfl rfl
    have hnotclear : (s.attn i).state ≠ .clear := by simp [hpending]
    rw [if_pos hpending, if_neg hnotclear]
    by_cases henters : c.mode = .host ∧ (level = 8 ∨ s.mask.val < level.val)
    · rw [if_pos henters, if_pos henters, State.handOver_eq, State.countP_escalated_setAttn _ i rfl,
        State.setAttn_attn, State.setAttn_station, hconfig, henters.1]
      rfl
    · rw [if_neg henters, if_neg henters]
      exact quiet _

/-! ### ARRANGE -/

/-- Whether two enabled stations have one address, which PAIRED forbids (R21). -/
theorem anyClash_paired_iff (cs : Fin 64 → StationConfig) : anyClash .paired cs = true ↔
    ∃ i j, i ≠ j ∧ (cs i).enabled = true ∧ (cs j).enabled = true ∧ (cs i).address = (cs j).address := by
  simp [anyClash, clash_iff]

theorem State.transmit_withEngine (s : State) (e : Engine) (g : EngineState → EngineState) :
    s.transmit.withEngine e g = (s.withEngine e g).transmit := by
  unfold State.transmit
  rw [State.withEngine_tx, State.withEngine_replySlot, State.withEngine_notices]
  (repeat' split) <;> (cases e <;> rfl)

/-- A notice and a change of an engine do not meet. -/
theorem State.raise_withEngine (s : State) (n : Notice) (e : Engine) (g : EngineState → EngineState) :
    (s.raise n).withEngine e g = (s.withEngine e g).raise n := by
  have queued : (s.queueNotice n).withEngine e g = (s.withEngine e g).queueNotice n := by
    unfold State.queueNotice
    rw [State.withEngine_notices]
    split <;> (cases e <;> rfl)
  unfold State.raise
  rw [State.withEngine_enables]
  split
  · rw [State.transmit_withEngine, queued]
  · rfl

theorem State.raiseAll_withEngine (s : State) (ns : List Notice) (e : Engine) (g : EngineState → EngineState) :
    (s.raiseAll ns).withEngine e g = (s.withEngine e g).raiseAll ns := by
  induction ns generalizing s with
  | nil => rfl
  | cons n ns ih =>
    rw [State.raiseAll, State.raiseAll, List.foldl_cons, List.foldl_cons, ← State.raise_withEngine]
    exact ih _

theorem State.raiseAll_append (s : State) (ns ms : List Notice) : s.raiseAll (ns ++ ms) = (s.raiseAll ns).raiseAll ms :=
  List.foldl_append

/-- The demands of an engine that end DISCARDED, by their notices (R79, R81). -/
def State.discards (s : State) (e : Engine) : List Notice := (s.engine e).demands.map fun q =>
  .demandResult q.tag e q.station q.kind .discarded 0 (s.station q.station).last []

theorem State.discardDemands_eq (s : State) (e : Engine) : s.discardDemands e =
    (s.withEngine e fun en => { en with demands := [] }).raiseAll (s.discards e) :=
  State.foldl_demandNotice e _ fun _ => State.withEngine_station _ _ _ _

/-- The effect of an accepted ARRANGE beside its notices (R35). -/
def State.rearranged (s : State) (x : Arrangement) (kept : Prop) [Decidable kept] : State :=
  { s with
    arrangement := x
    stations := s.stations.map Station.rearranged
    engineA := { s.engineA with demands := if kept then s.engineA.demands else [] }
    engineB := { s.engineB with demands := if kept then s.engineB.demands else [] } }

/-- The notices of a discard before the stations are renewed, for a renewal keeps each last status. -/
theorem State.discards_renewed (s : State) (x : Arrangement) (e : Engine) :
    ({ s with arrangement := x, stations := s.stations.map Station.rearranged } : State).discards e = s.discards e := by
  unfold State.discards
  refine congrArg₂ List.map (funext fun q => ?_) (by cases e <;> rfl)
  simp only [State.station, Station.rearranged, Fin.getElem_fin, Vector.getElem_map]

theorem State.rearrange_eq (s : State) (x : Arrangement) : s.rearrange x =
    (s.rearranged x (x = s.arrangement)).raiseAll (if x = s.arrangement then [] else s.discards .a ++ s.discards .b) := by
  unfold State.rearrange
  by_cases hx : x = s.arrangement
  · simp [hx, State.rearranged, State.raiseAll]
  let renewed : State := { s with arrangement := x, stations := s.stations.map Station.rearranged }
  have hb : (renewed.discardDemands .a).discards .b = s.discards .b := by
    rw [← s.discards_renewed x .b, State.discardDemands_eq]
    unfold State.discards
    rw [(SameRecords.raiseAll _ _).engine]
    simp only [(SameRecords.raiseAll _ _).station]
    rfl
  rw [if_neg hx, if_neg hx]
  change (renewed.discardDemands .a).discardDemands .b = _
  rw [State.discardDemands_eq _ .b, hb, State.discardDemands_eq renewed .a, State.raiseAll_withEngine, s.discards_renewed x .a,
    ← State.raiseAll_append]
  simp only [State.rearranged, if_neg hx]
  rfl

/-- ARRANGE of an arrangement is answered by its two checks (R34). -/
theorem State.doArrange_eq (s : State) (x : Arrangement) : s.doArrange x.code =
    if s.engineA.run = .stopped ∧ s.engineB.run = .stopped then
      if x = .paired ∧ ∃ i j, i ≠ j ∧ (s.station i).config.enabled = true ∧ (s.station j).config.enabled = true ∧
        (s.station i).config.address = (s.station j).config.address then s.refuse .duplicateAddress
      else (s.rearrange x).ok []
    else s.refuse .lineRunning := by
  rw [State.doArrange, arrangementOf_code]
  simp only [EngineState.isStopped_iff, anyClash_paired_iff]

/-- Settles O17: the checks by their conditions, and the accepted request by its effect and its notices. -/
theorem arrangeRenewsTheStations : Obligations.ArrangeRenewsTheStations := by
  intro s tag arr hproc f discard
  let u := s.inDispatch f
  constructor
  · intro hbad
    refine exec_of_refused (f := f) rfl hproc (Nat.le_of_ble_eq_true rfl) ?_
    change u.doArrange arr = _
    rw [State.doArrange, arrangementOf_eq_none hbad]
  rintro x rfl
  have handled : u.handle f = u.doArrange x.code := rfl
  rw [u.doArrange_eq] at handled
  refine ⟨fun hrun => ?_, fun ha hb => ⟨fun hdup => ?_, fun hnew => ?_⟩⟩
  · refine exec_of_refused (f := f) rfl hproc (Nat.le_of_ble_eq_true rfl) (handled.trans (if_neg fun h => ?_))
    exact hrun.elim (fun hr => hr h.1) fun hr => hr h.2
  · exact exec_of_refused (f := f) rfl hproc (Nat.le_of_ble_eq_true rfl)
      (handled.trans ((if_pos ⟨ha, hb⟩).trans (if_pos hdup)))
  · rw [exec_of_handled (f := f) rfl hproc (Nat.le_of_ble_eq_true rfl)
      (handled.trans ((if_pos ⟨ha, hb⟩).trans (if_neg hnew)))]
    refine congrArg Host.Outcome.next ?_
    change (u.rearrange x).placeReply f ⟨.ok, []⟩ s.tx = _
    rw [State.rearrange_eq]
    rfl

end Sys2Proof.Machine
end

section
/-!
The attention law with what it rests on (O59), read engine by engine and station by station, and the two ways in which an operation
keeps it: it is `Calm`, or it changes the flight of one engine.
-/

namespace Sys2Proof.Machine

/-! ### The law, record by record -/

/-- A station's record admits an attention state: a disabled station is CLEAR, an OFFLINE one CLEAR or HELD (R92). -/
def Station.Admits (st : Station) (x : AttnState) : Prop :=
  (st.config.enabled = false → x = .clear) ∧ (st.health = .offline → x = .clear ∨ x = .held)

theorem Station.admits_clear (st : Station) : st.Admits .clear := ⟨fun _ => rfl, fun _ => .inl rfl⟩

/-- A station that can be served admits every state. -/
theorem Station.admits_of_servable {st : Station} (he : st.config.enabled = true) (hh : st.health ≠ .offline) (x : AttnState) :
    st.Admits x :=
  ⟨fun h => absurd (he.symm.trans h) (by decide), fun h => absurd h hh⟩

/-- A state other than CLEAR and HELD is that of a station that can be served. -/
theorem Station.Admits.servable {st : Station} {x : AttnState} (h : st.Admits x) (hc : x ≠ .clear) (hh : x ≠ .held) :
    st.config.enabled = true ∧ st.health ≠ .offline :=
  ⟨by_contra fun he => hc (h.1 (by simpa using he)), fun ho => (h.2 ho).elim hc hh⟩

/-- What a transaction in flight rests on (first and second law, R26, R64). -/
structure State.Holds (s : State) (e : Engine) (t : Transaction) : Prop where
  progress : t.InProgress
  marked : (s.station t.subject).inTransaction = some e
  enabled : (s.station t.subject).config.enabled = true
  scope : scopeOf s.arrangement (s.station t.subject).config = e
  claim : ∀ d, t.source = .transfer d → s.claim d = some e

/-- The law of one engine: its transaction in flight, the marks and claims that name it, and its rest when STOPPED. -/
structure State.FlightFits (s : State) (e : Engine) : Prop where
  flight : ∀ t, (s.engine e).activity = .inTransaction t → s.Holds e t
  marks : ∀ i, (s.station i).inTransaction = some e → ∃ t, (s.engine e).activity = .inTransaction t ∧ t.subject = i
  claims : ∀ d, s.claim d = some e → ∃ t, (s.engine e).activity = .inTransaction t ∧ t.source = .transfer d
  stopped : (s.engine e).StoppedIdle

/-- The attention law with one clause for each kind of record. -/
structure State.AttentionFit (s : State) : Prop where
  admits : ∀ i, (s.station i).Admits (s.attn i).state
  engine : ∀ e, s.FlightFits e

theorem State.inFlightMarked_iff (s : State) (e : Engine) :
    s.InFlightMarked e ↔ ∀ t, (s.engine e).activity = .inTransaction t → s.Holds e t := by
  unfold State.InFlightMarked
  cases (s.engine e).activity with
  | inTransaction t =>
    constructor
    · rintro ⟨hp, hm, he, hs, hc⟩ t' ht
      injection ht with ht
      subst ht
      exact ⟨hp, hm, he, hs, fun d hd => by rw [hd] at hc; exact hc⟩
    · intro h
      obtain ⟨hp, hm, he, hs, hc⟩ := h t rfl
      refine ⟨hp, hm, he, hs, ?_⟩
      cases hsrc : t.source with
      | transfer d => exact hc d hsrc
      | _ => trivial
  | _ => exact ⟨fun _ t ht => (nomatch ht), fun _ => trivial⟩

theorem State.attentionSound_iff (s : State) : s.AttentionSound ↔ s.AttentionFit := by
  unfold State.AttentionSound
  rw [State.inFlightMarked_iff, State.inFlightMarked_iff]
  constructor
  · rintro ⟨hi, ha, hb, ⟨hm, hc⟩, sa, sb⟩
    exact ⟨hi, fun
      | .a => ⟨ha, fun i => hm i .a, fun d => hc d .a, sa⟩
      | .b => ⟨hb, fun i => hm i .b, fun d => hc d .b, sb⟩⟩
  · rintro ⟨hi, h⟩
    exact ⟨hi, (h .a).flight, (h .b).flight, ⟨fun i e => (h e).marks i, fun d e => (h e).claims d⟩, (h .a).stopped, (h .b).stopped⟩

/-! ### What an engine's flight rests on is the same -/

/-- From `s` to `t` the transaction of engine `x` stands on the same records. -/
structure SameFlight (x : Engine) (s t : State) : Prop where
  activity : (t.engine x).activity = (s.engine x).activity
  stopped : (s.engine x).StoppedIdle → (t.engine x).StoppedIdle
  marked : ∀ i, (t.station i).inTransaction = some x ↔ (s.station i).inTransaction = some x
  subject : ∀ i, (s.station i).inTransaction = some x → (t.station i).config.enabled = (s.station i).config.enabled ∧
    scopeOf t.arrangement (t.station i).config = scopeOf s.arrangement (s.station i).config
  claim : ∀ d, t.claim d = some x ↔ s.claim d = some x

theorem State.FlightFits.congr {x : Engine} {s t : State} (h : s.FlightFits x) (k : SameFlight x s t) : t.FlightFits x where
  flight tr ht := by
    obtain ⟨hp, hm, he, hs, hc⟩ := h.flight tr (k.activity ▸ ht)
    obtain ⟨henabled, hscope⟩ := k.subject _ hm
    exact ⟨hp, (k.marked _).mpr hm, henabled.trans he, hscope.trans hs, fun d hd => (k.claim d).mpr (hc d hd)⟩
  marks i hi := k.activity ▸ h.marks i ((k.marked i).mp hi)
  claims d hd := k.activity ▸ h.claims d ((k.claim d).mp hd)
  stopped := k.stopped h.stopped

/-- An engine without a transaction is named by no mark. -/
theorem State.FlightFits.unmarked {s : State} {e : Engine} (h : s.FlightFits e)
    (hf : ∀ t, (s.engine e).activity ≠ .inTransaction t) (i : Fin 64) : (s.station i).inTransaction ≠ some e := fun hi => by
  obtain ⟨t, ht, _⟩ := h.marks i hi
  exact hf t ht

/-- An engine without a transaction is named by no claim. -/
theorem State.FlightFits.unclaimed {s : State} {e : Engine} (h : s.FlightFits e)
    (hf : ∀ t, (s.engine e).activity ≠ .inTransaction t) (d : Fin 32) : s.claim d ≠ some e := fun hd => by
  obtain ⟨t, ht, _⟩ := h.claims d hd
  exact hf t ht

/-- An engine that does nothing, named by no mark and no claim. -/
theorem State.FlightFits.of_free {s : State} {e : Engine} (hf : ∀ t, (s.engine e).activity ≠ .inTransaction t)
    (hm : ∀ i, (s.station i).inTransaction ≠ some e) (hc : ∀ d, s.claim d ≠ some e) (hs : (s.engine e).StoppedIdle) :
    s.FlightFits e :=
  ⟨fun t ht => absurd ht (hf t), fun i hi => absurd hi (hm i), fun d hd => absurd hd (hc d), hs⟩

/-- Engines that do nothing, and no mark and no claim. -/
theorem State.attentionFit_of_idle {s : State} (ha : ∀ i, (s.station i).Admits (s.attn i).state)
    (he : ∀ e, (s.engine e).activity = .none ∧ (s.engine e).timer = none) (hm : ∀ i, (s.station i).inTransaction = none)
    (hc : ∀ d, s.claim d = none) : s.AttentionFit where
  admits := ha
  engine e := .of_free (by simp [(he e).1]) (by simp [hm]) (by simp [hc]) fun _ => he e

/-! ### Calm operations -/

/-- An operation that leaves alone what a flight rests on, and to each station an attention state that its record admits. -/
structure Calm (s t : State) : Prop where
  arrangement : t.arrangement = s.arrangement
  engine : ∀ x, (t.engine x).activity = (s.engine x).activity ∧ (t.engine x).run = (s.engine x).run ∧
    (t.engine x).timer = (s.engine x).timer
  station : ∀ i, (t.station i).config = (s.station i).config ∧ (t.station i).inTransaction = (s.station i).inTransaction
  claim : ∀ d, t.claim d = s.claim d
  admits : (∀ i, (s.station i).Admits (s.attn i).state) → ∀ i, (t.station i).Admits (t.attn i).state

theorem Calm.sameFlight {s t : State} (h : Calm s t) (x : Engine) : SameFlight x s t where
  activity := (h.engine x).1
  stopped hs := by
    obtain ⟨ha, hr, ht⟩ := h.engine x
    unfold EngineState.StoppedIdle
    rwa [ha, hr, ht]
  marked i := by rw [(h.station i).2]
  subject i _ := by rw [(h.station i).1, h.arrangement]; exact ⟨rfl, rfl⟩
  claim d := by rw [h.claim]

/-- A calm operation keeps the law. -/
theorem State.AttentionFit.calm {s t : State} (h : s.AttentionFit) (k : Calm s t) : t.AttentionFit :=
  ⟨k.admits h.admits, fun e => (h.engine e).congr (k.sameFlight e)⟩

namespace Calm

theorem refl (s : State) : Calm s s := ⟨rfl, fun _ => ⟨rfl, rfl, rfl⟩, fun _ => ⟨rfl, rfl⟩, fun _ => rfl, id⟩

theorem trans {s t u : State} (h : Calm s t) (k : Calm t u) : Calm s u where
  arrangement := k.arrangement.trans h.arrangement
  engine x := ⟨(k.engine x).1.trans (h.engine x).1, (k.engine x).2.1.trans (h.engine x).2.1,
    (k.engine x).2.2.trans (h.engine x).2.2⟩
  station i := ⟨(k.station i).1.trans (h.station i).1, (k.station i).2.trans (h.station i).2⟩
  claim d := (k.claim d).trans (h.claim d)
  admits := k.admits ∘ h.admits

theorem ite {s : State} {c : Prop} [Decidable c] {t u : State} (h : Calm s t) (k : Calm s u) : Calm s (if c then t else u) := by
  split <;> assumption

theorem foldl {α : Type} (f : State → α → State) (h : ∀ s a, Calm s (f s a)) (xs : List α) (s : State) :
    Calm s (xs.foldl f s) := by
  induction xs generalizing s with
  | nil => exact refl s
  | cons x xs ih => exact (h s x).trans (ih (f s x))

/-- An operation whose records are the same is calm. -/
theorem of_same {s t : State} (h : SameRecords s t) (ha : t.arrangement = s.arrangement) : Calm s t where
  arrangement := ha
  engine x := by rw [h.engine]; exact ⟨rfl, rfl, rfl⟩
  station i := by rw [h.station]; exact ⟨rfl, rfl⟩
  claim d := by rw [State.claim, h.claims]; rfl
  admits hs i := by rw [h.station, h.attn]; exact hs i

/-- An update of what the law does not read. -/
theorem of_quiet {s t : State} (ha : t.arrangement = s.arrangement := by rfl) (hs : t.stations = s.stations := by rfl)
    (hr : t.attention = s.attention := by rfl) (hc : t.claims = s.claims := by rfl)
    (hx : t.engineA = s.engineA := by rfl) (hy : t.engineB = s.engineB := by rfl) : Calm s t where
  arrangement := ha
  engine x := by cases x <;> simp [State.engine, hx, hy]
  station i := by simp [State.station, hs]
  claim d := by simp [State.claim, hc]
  admits h i := by rw [State.station, State.attn, hs, hr]; exact h i

theorem raise (s : State) (n : Notice) : Calm s (s.raise n) := of_same (.raise s n) (by simp)

theorem transmit (s : State) : Calm s s.transmit :=
  of_quiet (by simp) (by simp) (by simp) (by simp) (by simp) (by simp)

theorem withPort (s : State) (p : PortId) (g : Port → Port) : Calm s (s.withPort p g) :=
  of_quiet (by simp) (by simp) (by simp) (by simp) (by simp) (by simp)

theorem setDescriptor (s : State) (d : Fin 32) (r : Descriptor) : Calm s (s.setDescriptor d r) := of_quiet

theorem setPair (s : State) (p : Fin 16) (r : Pair) : Calm s (s.setPair p r) := of_quiet

/-- A change of an engine beside its activity, its run state and its timer. -/
theorem withEngine {s : State} {e : Engine} {g : EngineState → EngineState}
    (ha : (g (s.engine e)).activity = (s.engine e).activity := by rfl) (hr : (g (s.engine e)).run = (s.engine e).run := by rfl)
    (ht : (g (s.engine e)).timer = (s.engine e).timer := by rfl) : Calm s (s.withEngine e g) where
  arrangement := by simp
  engine x := by
    by_cases hx : x = e
    · subst hx
      rw [State.withEngine_engine]
      exact ⟨ha, hr, ht⟩
    · rw [State.withEngine_engine_other s g hx]
      exact ⟨rfl, rfl, rfl⟩
  station := by simp
  claim := by simp
  admits := by simp

/-- An attention record is written with a state that the station admits. -/
theorem setAttn {s : State} {i : Fin 64} {r : Attention} (h : (s.station i).Admits (s.attn i).state → (s.station i).Admits r.state) :
    Calm s (s.setAttn i r) where
  arrangement := by simp
  engine := by simp
  station := by simp
  claim := by simp
  admits hs j := by
    by_cases hj : j = i
    · subst hj
      simpa using h (hs j)
    · rw [State.setAttn_station, State.setAttn_attn_other s r hj]
      exact hs j

/-- The record of a station whose attention is pending or is being served takes any state. -/
theorem setAttn_of_busy {s : State} {i : Fin 64} (r : Attention) (hc : (s.attn i).state ≠ .clear) (hh : (s.attn i).state ≠ .held) :
    Calm s (s.setAttn i r) :=
  setAttn fun h => Station.admits_of_servable (h.servable hc hh).1 (h.servable hc hh).2 _

theorem handOver (s : State) (i : Fin 64) (o : Origin) : Calm s (s.handOver i o) :=
  of_same (.handOver s i o) (EngineFrame.handOver s i o).arrangement

theorem handOverResults (s : State) (t : Transaction) (b : AttnState) : Calm s (s.handOverResults t b) :=
  of_same (.handOverResults s t b) (EngineFrame.handOverResults s t b).arrangement

theorem captureWords (s : State) (p : Fin 16) (n : Nat) (ws : List Word) : Calm s (s.captureWords p n ws) := setPair _ _ _

theorem flip (s : State) (e : Engine) (p : Fin 16) (c : FlipCause) : Calm s (s.flip e p c) := by
  unfold State.flip
  exact ite ((setPair _ _ _).trans (raise _ _)) (setPair _ _ _)

theorem demandNotice (s : State) (e : Engine) (q : Demand) (o : LineOutcome) (n : Nat) (ws : List Word) :
    Calm s (s.demandNotice e q o n ws) := raise _ _

theorem discardDemands (s : State) (e : Engine) : Calm s (s.discardDemands e) := by
  unfold State.discardDemands
  have emptied : Calm s (s.withEngine e fun en => { en with demands := [] }) := withEngine
  exact emptied.trans (foldl _ (fun s q => demandNotice s e q _ _ _) _ _)

theorem deliverWords (s : State) (t : Transaction) (o : LineOutcome) : Calm s (s.deliverWords t o) := by
  unfold State.deliverWords
  (repeat' split) <;> first | exact captureWords _ _ _ _ | exact refl _

/-- The end action of a spent descriptor is taken for a record that is SERVING, whose station can be served (R112). -/
theorem completeTransfer (s : State) (e : Engine) (i : Fin 64) (d : Fin 32) : Calm s (s.completeTransfer e i d) := by
  unfold State.completeTransfer
  have advanced := setDescriptor s d (s.descriptor d).advance
  have wrapped := advanced.trans
    (ite (c := (s.descriptor d).wraps = true) (flip _ e (s.descriptor d).pair (.descriptorWrap d)) (refl _))
  have acted : ∀ u : State, Calm u (if (u.attn i).state = .serving then u.endAction i (s.descriptor d).endAction else u) := fun u => by
    split
    · rename_i h
      exact setAttn_of_busy _ (by simp [h]) (by simp [h])
    · exact refl u
  exact ite ((wrapped.trans (acted _)).trans (ite (flip _ _ _ _) (refl _))) wrapped

theorem endSweep (s : State) (e : Engine) : Calm s (s.endSweep e) := withEngine

theorem sweepStepEnd (s : State) (e : Engine) (t : Transaction) : Calm s (s.sweepStepEnd e t) := by
  unfold State.sweepStepEnd; exact ite (endSweep _ _) (ite (endSweep _ _) (refl _))

theorem slotFlip (s : State) (e : Engine) (t : Transaction) : Calm s (s.slotFlip e t) := by
  unfold State.slotFlip
  (repeat' split) <;> first | exact flip _ _ _ _ | exact refl _

theorem tally (s : State) (e : Engine) (f : Tallies → Tallies) : Calm s (s.tally e f) := withEngine

theorem tallyFailed (s : State) (e : Engine) (o : LineOutcome) : Calm s (s.tallyFailed e o) := by
  unfold State.tallyFailed; exact ite withEngine (refl _)

theorem nextSlot (s : State) (e : Engine) : Calm s (s.nextSlot e) := withEngine

theorem closeCycle (s : State) (e : Engine) : Calm s (s.closeCycle e) := by
  unfold State.closeCycle
  have closed : Calm s (s.withEngine e EngineState.closed) := withEngine
  exact closed.trans (ite (raise _ _) (refl _))

end Calm

/-! ### One engine changes -/

/-- A change of an engine that keeps its transaction, or its having none. -/
theorem State.AttentionFit.withEngine {s : State} (h : s.AttentionFit) {e : Engine} {g : EngineState → EngineState}
    (hg : ∀ t, (g (s.engine e)).activity = .inTransaction t ↔ (s.engine e).activity = .inTransaction t)
    (hs : (g (s.engine e)).StoppedIdle) : (s.withEngine e g).AttentionFit where
  admits := by simpa using h.admits
  engine x := by
    by_cases hx : x = e
    · subst hx
      obtain ⟨hf, hm, hc, _⟩ := h.engine x
      exact {
        flight := fun t ht => by
          obtain ⟨hp, hk, he, hsc, hcl⟩ := hf t ((hg t).mp (by simpa using ht))
          exact ⟨hp, by simpa using hk, by simpa using he, by simpa using hsc, by simpa using hcl⟩
        marks := fun i hi => by simpa [hg] using hm i (by simpa using hi)
        claims := fun d hd => by simpa [hg] using hc d (by simpa using hd)
        stopped := by simpa using hs }
    · have hx := State.withEngine_engine_other s g hx
      exact (h.engine x).congr ⟨by rw [hx], by rw [hx]; exact id, by simp, by simp, by simp⟩

/-- A change of a free engine that leaves it free. -/
theorem State.AttentionFit.withEngine_free {s : State} (h : s.AttentionFit) {e : Engine} {g : EngineState → EngineState}
    (hf : ∀ t, (s.engine e).activity ≠ .inTransaction t) (hg : ∀ t, (g (s.engine e)).activity ≠ .inTransaction t)
    (hs : (g (s.engine e)).StoppedIdle) : (s.withEngine e g).AttentionFit :=
  h.withEngine (fun t => iff_of_false (hg t) (hf t)) hs

/-- An engine in transaction is not STOPPED (R44). -/
theorem State.FlightFits.running {s : State} {e : Engine} {t : Transaction} (h : s.FlightFits e)
    (ht : (s.engine e).activity = .inTransaction t) : (s.engine e).run ≠ .stopped := fun hr => by
  have := (h.stopped hr).1
  rw [ht] at this
  cases this

theorem EngineState.stoppedIdle_of_running {en : EngineState} (h : en.run ≠ .stopped) : en.StoppedIdle := fun hr => absurd hr h

/-- An engine that halts does nothing (R50). -/
theorem EngineState.stoppedIdle_halt (en : EngineState) : en.halt.StoppedIdle := fun _ => ⟨rfl, rfl⟩

/-- What follows a halt is calm (R50, steps 3 and 5). -/
theorem Calm.stopEngine (s : State) (e : Engine) (m : StopMode) : Calm (s.withEngine e EngineState.halt) (s.stopEngine e m) := by
  unfold State.stopEngine
  exact (ite (discardDemands _ _) (refl _)).trans (raise _ _)

/-- A free engine stops. -/
theorem State.AttentionFit.stopEngine {s : State} (h : s.AttentionFit) {e : Engine}
    (hf : ∀ t, (s.engine e).activity ≠ .inTransaction t) (m : StopMode) : (s.stopEngine e m).AttentionFit :=
  (h.withEngine_free hf (fun _ ht => by cases ht) (EngineState.stoppedIdle_halt _)).calm (.stopEngine s e m)

end Sys2Proof.Machine
end

section
/-!
The part after reset (O60).
-/

namespace Sys2Proof.Machine

/-- Every attention record is CLEAR after reset (R82). -/
theorem State.attn_resetBlocks (s : State) (i : Fin 64) : s.resetBlocks.attn i = .none := by
  simp [State.attn, State.resetBlocks, State.reset]

/-- The blocks' reset values: no station is marked or served, and no descriptor is claimed. -/
theorem State.attentionFit_resetBlocks (s : State) : s.resetBlocks.AttentionFit :=
  State.attentionFit_of_idle (fun i => s.attn_resetBlocks i ▸ Station.admits_clear _) (fun e => by cases e <;> exact ⟨rfl, rfl⟩)
    (by simp [State.station, State.resetBlocks, State.reset, Station.fresh]) (by simp [State.claim, State.resetBlocks, State.reset])

/-- The erased region holds no image (R168). -/
theorem Region.check_erased : Region.erased.check = (.noImage, none) := Region.check_of_no_marker (by decide)

/-- The part after reset is what a power-on makes of it. -/
theorem State.reset_eq_fullReset : State.reset = State.reset.fullReset .powerOn := by
  rw [State.fullReset_of_none (s := State.reset) Region.check_erased]
  rfl

theorem State.regionSound_reset : State.reset.RegionSound := ⟨rfl, fun _ h => by cases h⟩

theorem State.attentionFit_reset : State.reset.AttentionFit := (State.attentionFit_resetBlocks State.reset).calm .of_quiet

theorem State.serviceSound_reset : State.reset.ServiceSound := by
  have hattn : ∀ i, State.reset.attn i = .none := State.reset.attn_resetBlocks
  refine ⟨⟨Nat.zero_le _, fun i => ?_, List.nodup_nil, .nil⟩, fun i => ?_⟩
  · rw [hattn]
    exact iff_of_false (by decide) List.not_mem_nil
  · rw [hattn]
    simp [Attention.none]

/-- Settles O60: the part after reset is the part after a power-on with an erased region. -/
theorem resetMeetsEveryLaw : Obligations.ResetMeetsEveryLaw := by
  obtain ⟨tables, units⟩ := State.fullReset_sound State.reset .powerOn
  obtain ⟨plant, link⟩ := units State.regionSound_reset
  rw [← State.reset_eq_fullReset] at tables plant link
  exact ⟨(State.tablesSound_iff _).mpr tables, State.serviceSound_reset, (State.unitsSound_iff _).mpr ⟨plant, link⟩,
    (State.attentionSound_iff _).mpr State.attentionFit_reset⟩

end Sys2Proof.Machine
end

section
/-!
A free engine at work under the attention law (O59): the issue of a transaction, the grants, the slots and the cycles.
-/

namespace Sys2Proof.Machine

/-! ### A free engine -/

/-- The law holds, and an engine that is not STOPPED has no transaction; the other engine's activity is `o`. -/
structure State.Free (s : State) (e : Engine) (o : Activity) : Prop where
  fit : s.AttentionFit
  free : ∀ t, (s.engine e).activity ≠ .inTransaction t
  going : (s.engine e).run ≠ .stopped
  other : (s.engine e.other).activity = o

/-- The law holds behind the work of an engine; the other engine's activity is `o`. -/
structure State.Worked (s : State) (e : Engine) (o : Activity) : Prop where
  fit : s.AttentionFit
  other : (s.engine e.other).activity = o

theorem other_side_ne (x : Side) : x.other ≠ x := by cases x <;> decide

section
variable {s t : State} {e : Engine} {o : Activity}

theorem State.Worked.calm (h : s.Worked e o) (k : Calm s t) : t.Worked e o := ⟨h.fit.calm k, (k.engine _).1.trans h.other⟩

namespace State.Free

theorem worked (h : s.Free e o) : s.Worked e o := ⟨h.fit, h.other⟩

theorem calm (h : s.Free e o) (k : Calm s t) : t.Free e o where
  fit := h.fit.calm k
  free tr ht := h.free tr ((k.engine e).1 ▸ ht)
  going hr := h.going ((k.engine e).2.1 ▸ hr)
  other := (k.engine _).1.trans h.other

/-- A change of the free engine that leaves it free. -/
theorem withEngine (h : s.Free e o) {g : EngineState → EngineState} (hg : ∀ tr, (g (s.engine e)).activity ≠ .inTransaction tr)
    (hr : (g (s.engine e)).run ≠ .stopped) : (s.withEngine e g).Free e o where
  fit := h.fit.withEngine_free h.free hg (EngineState.stoppedIdle_of_running hr)
  free := by rwa [State.withEngine_engine]
  going := by rwa [State.withEngine_engine]
  other := (congrArg EngineState.activity (State.withEngine_engine_other s g (other_side_ne e))).trans h.other

/-- A station in the scope of a free engine is in no transaction. -/
theorem unmarked (h : s.Free e o) {i : Fin 64} (hi : scopeOf s.arrangement (s.station i).config = e) :
    (s.station i).inTransaction = none := by
  by_contra hne
  obtain ⟨x, hx⟩ := Option.ne_none_iff_exists'.mp hne
  obtain ⟨tr, ht, rfl⟩ := (h.fit.engine x).marks i hx
  obtain rfl := ((h.fit.engine x).flight tr ht).scope.symm.trans hi
  exact h.free tr ht

end State.Free
end

/-! ### Issue (R65) -/

section
variable (s : State) (e : Engine) (t : Transaction)

theorem State.issue_engine : ∃ line, (s.issue e t).engine e =
    { s.engine e with started := true, activity := .inTransaction { t with lastLine := some line } } := by
  have hclaim : ∀ u : State, (u.claimFor e t.source).engine e = u.engine e := fun u => by
    unfold State.claimFor; split <;> first | exact State.setClaim_engine _ _ _ _ | rfl
  exact ⟨_, by rw [State.issue, State.handAttempt, State.withPort_engine, State.withEngine_engine, State.withEngine_engine, hclaim,
    State.withStation_engine]⟩

theorem State.issue_engine_other {x : Engine} (hx : x ≠ e) : (s.issue e t).engine x = s.engine x := by
  have hclaim : ∀ u : State, (u.claimFor e t.source).engine x = u.engine x := fun u => by
    unfold State.claimFor; split <;> first | exact State.setClaim_engine _ _ _ _ | rfl
  rw [State.issue, State.handAttempt, State.withPort_engine, State.withEngine_engine_other _ _ hx,
    State.withEngine_engine_other _ _ hx, hclaim, State.withStation_engine]

theorem State.claimFor_claim (d : Fin 32) : (t.source = .transfer d → (s.claimFor e t.source).claim d = some e) ∧
    (t.source ≠ .transfer d → (s.claimFor e t.source).claim d = s.claim d) := by
  unfold State.claimFor
  cases t.source with
  | transfer x =>
    refine ⟨fun h => ?_, fun h => State.setClaim_claim_other s _ fun hx => h (congrArg Source.transfer hx.symm)⟩
    injection h with h
    subst h
    exact State.setClaim_claim _ _ _
  | _ => exact ⟨nofun, fun _ => rfl⟩

/-- What an issue leaves of the records: the subject is marked, a transfer's descriptor is claimed, and the rest is kept (R65). -/
theorem State.issue_records : (s.issue e t).arrangement = s.arrangement ∧ (∀ i, (s.issue e t).attn i = s.attn i) ∧
    (s.issue e t).station t.subject = { s.station t.subject with inTransaction := some e } ∧
    (∀ i, i ≠ t.subject → (s.issue e t).station i = s.station i) ∧
    ∀ d, (t.source = .transfer d → (s.issue e t).claim d = some e) ∧
      (t.source ≠ .transfer d → (s.issue e t).claim d = s.claim d) := by
  have hstation : ∀ (u : State) i, (u.claimFor e t.source).station i = u.station i := fun u i => by
    unfold State.claimFor; split <;> rfl
  have hclaim : ∀ d, (s.issue e t).claim d =
      ((s.withStation t.subject fun st => { st with inTransaction := some e }).claimFor e t.source).claim d := fun d => by
    simp [State.issue, State.handAttempt]
  refine ⟨?_, fun i => ?_, ?_, fun i hi => ?_, fun d => ?_⟩
  · unfold State.issue State.handAttempt State.claimFor; split <;> simp
  · unfold State.issue State.handAttempt State.claimFor; split <;> simp
  · simp [State.issue, State.handAttempt, hstation]
  · simp [State.issue, State.handAttempt, hstation, State.withStation_station_other _ _ hi]
  · rw [hclaim]
    exact State.claimFor_claim _ e t d

end

/-- A free engine issues a transaction on an enabled station of its scope; a transfer's descriptor is not claimed. -/
theorem State.Free.issue {s : State} {e : Engine} {o : Activity} (h : s.Free e o) {t : Transaction} (hp : t.InProgress)
    (hen : (s.station t.subject).config.enabled = true) (hsc : scopeOf s.arrangement (s.station t.subject).config = e)
    (hc : ∀ d, t.source = .transfer d → s.claim d = none) : (s.issue e t).Worked e o := by
  obtain ⟨line, hengine⟩ := s.issue_engine e t
  obtain ⟨harr, hattn, hsubject, hothers, hclaim⟩ := s.issue_records e t
  have hunmarked := h.unmarked hsc
  have hrecord : ∀ i, ((s.issue e t).station i).config = (s.station i).config ∧
      ((s.issue e t).station i).health = (s.station i).health := fun i => by
    by_cases hi : i = t.subject
    · subst hi; rw [hsubject]; exact ⟨rfl, rfl⟩
    · rw [hothers i hi]; exact ⟨rfl, rfl⟩
  refine ⟨⟨fun i => ?_, fun x => ?_⟩, ?_⟩
  · unfold Station.Admits
    rw [(hrecord i).1, (hrecord i).2, hattn]
    exact h.fit.admits i
  · by_cases hx : x = e
    · subst hx
      exact {
        flight := fun tr htr => by
          rw [hengine] at htr
          injection htr with htr
          subst htr
          exact ⟨hp, by rw [hsubject], by rw [(hrecord _).1]; exact hen, by rw [harr, (hrecord _).1]; exact hsc,
            fun d hd => (hclaim d).1 hd⟩
        marks := fun i hi => by
          rw [hengine]
          refine ⟨_, rfl, ?_⟩
          by_contra hne
          rw [hothers i (Ne.symm hne)] at hi
          exact (h.fit.engine x).unmarked h.free i hi
        claims := fun d hd => by
          rw [hengine]
          refine ⟨_, rfl, ?_⟩
          by_contra hne
          rw [(hclaim d).2 hne] at hd
          exact (h.fit.engine x).unclaimed h.free d hd
        stopped := by
          rw [hengine]
          exact EngineState.stoppedIdle_of_running h.going }
    · refine (h.fit.engine x).congr ⟨?_, ?_, fun i => ?_, fun i _ => ?_, fun d => ?_⟩
      · rw [s.issue_engine_other e t hx]
      · rw [s.issue_engine_other e t hx]; exact id
      · by_cases hi : i = t.subject
        · subst hi
          rw [hsubject, hunmarked]
          exact iff_of_false (fun he => hx (Option.some.inj he).symm) nofun
        · rw [hothers i hi]
      · rw [harr, (hrecord i).1]; exact ⟨rfl, rfl⟩
      · by_cases hd : t.source = .transfer d
        · rw [(hclaim d).1 hd, hc d hd]
          exact iff_of_false (fun he => hx (Option.some.inj he).symm) nofun
        · rw [(hclaim d).2 hd]
  · rw [s.issue_engine_other e t (other_side_ne e)]
    exact h.other

end Sys2Proof.Machine
end

section
/-!
Grants and slots under the attention law (O59).
-/

namespace Sys2Proof.Machine

/-! ### What a choice over the stations tells of the station chosen -/

theorem lowest_spec {p : Fin 64 → Bool} {i : Fin 64} (h : lowest p = some i) : p i = true := List.find?_some h

theorem better_cases (lvl : Fin 64 → Nat) (best : Option (Fin 64)) (i : Fin 64) :
    better lvl best i = some i ∨ better lvl best i = best := by
  unfold better
  (repeat' split) <;> simp

/-- The station of highest level is one of those chosen from. -/
theorem highest_spec {p : Fin 64 → Bool} {lvl : Fin 64 → Nat} {i : Fin 64} (h : highest p lvl = some i) : p i = true := by
  have chosen : ∀ (xs : List (Fin 64)) (best : Option (Fin 64)), (∀ j, best = some j → p j = true) →
      ∀ j, xs.foldl (fun best i => if p i then better lvl best i else best) best = some j → p j = true := by
    intro xs
    induction xs with
    | nil => exact fun best hb => hb
    | cons x xs ih =>
      intro best hb
      refine ih _ fun j hj => ?_
      dsimp only at hj
      by_cases hx : p x = true
      · rw [if_pos hx] at hj
        obtain hbetter | hbetter := better_cases lvl best x <;> rw [hbetter] at hj
        · injection hj with hj; exact hj ▸ hx
        · exact hb j hj
      · rw [if_neg hx] at hj
        exact hb j hj
  exact chosen _ none nofun i h

/-- A candidate is enabled, in scope and not OFFLINE (R93). -/
theorem State.candidate_spec {s : State} {e : Engine} {xs : List (Fin 64)} {i : Fin 64} (h : s.candidate e xs i = true) :
    (s.station i).config.enabled = true ∧ scopeOf s.arrangement (s.station i).config = e ∧ (s.station i).health ≠ .offline := by
  simp only [State.candidate, State.inScope, Bool.and_eq_true, decide_eq_true_eq] at h
  obtain ⟨⟨⟨⟨henabled, hscope⟩, hhealth⟩, -⟩, -⟩ := h
  exact ⟨henabled, hscope, hhealth⟩

/-- A candidate with descriptor work is PENDING or SERVING, and its descriptor is not claimed (R94, R107). -/
theorem State.hasWork_spec {s : State} {e : Engine} {xs : List (Fin 64)} {i : Fin 64} (h : s.hasWork e xs i = true) :
    s.candidate e xs i = true ∧ ((s.attn i).state = .pending ∨ (s.attn i).state = .serving) ∧
      s.claim (s.station i).config.descriptor = none := by
  simp only [State.hasWork, Bool.and_eq_true, decide_eq_true_eq] at h
  obtain ⟨⟨⟨hcandidate, -⟩, hstate⟩, hclaim⟩ := h
  exact ⟨hcandidate, hstate, hclaim⟩

theorem State.urgentWork_spec {s : State} {e : Engine} {xs : List (Fin 64)} {i : Fin 64} (h : s.urgentWork e xs = some i) :
    s.hasWork e xs i = true := ((Bool.and_eq_true _ _).mp (lowest_spec h)).1

theorem State.importantWork_spec {s : State} {e : Engine} {xs : List (Fin 64)} {i : Fin 64} (h : s.importantWork e xs = some i) :
    s.hasWork e xs i = true := ((Bool.and_eq_true _ _).mp ((Bool.and_eq_true _ _).mp (highest_spec h)).1).1

theorem State.remainingWork_spec {s : State} {e : Engine} {xs : List (Fin 64)} {i : Fin 64} (h : s.remainingWork e xs = some i) :
    s.hasWork e xs i = true := ((Bool.and_eq_true _ _).mp ((Bool.and_eq_true _ _).mp (highest_spec h)).1).1

theorem State.owedAcknowledge_spec {s : State} {e : Engine} {xs : List (Fin 64)} {i : Fin 64} (h : s.owedAcknowledge e xs = some i) :
    s.candidate e xs i = true := ((Bool.and_eq_true _ _).mp (lowest_spec h)).1

theorem State.sweepSearch_spec {s : State} {e : Engine} {xs : List (Fin 64)} {i : Fin 64} (h : s.sweepSearch e xs = some i) :
    s.candidate e xs i = true := by
  have hfit : s.sweepFit e xs i = true := List.find?_some h
  simp only [State.sweepFit, Bool.and_eq_true] at hfit
  obtain ⟨⟨⟨-, hcandidate⟩, -⟩, -⟩ := hfit
  exact hcandidate

/-! ### Transactions before their first attempt (R64, R66) -/

/-- A transaction that is built with a limit of 1 to 4 is in progress. -/
theorem State.inProgress_build (s : State) (i : Fin 64) (src : Source) (k : ReqKind) (p : Word) (c : Byte) (ws : List Word)
    {limit : Nat} (h : 1 ≤ limit ∧ limit ≤ 4) : (s.build i src k p c ws limit).InProgress := ⟨rfl, h.1, h.2, Nat.le_refl 0⟩

theorem retryLimit_range (c : StationConfig) : 1 ≤ retryLimit c ∧ retryLimit c ≤ 4 :=
  ⟨Nat.le_add_left 1 _, c.retries.isLt⟩

/-! ### Grants (R94) -/

/-- The law behind a grant's look or a slot's start: the flag says whether a transaction was issued. -/
structure Took (e : Engine) (o : Activity) (r : State × Bool) : Prop where
  worked : r.1.Worked e o
  free : r.2 = false → r.1.Free e o

theorem Took.of_free {e : Engine} {o : Activity} {s : State} (h : s.Free e o) (b : Bool) : Took e o (s, b) := ⟨h.worked, fun _ => h⟩

theorem Took.of_worked {e : Engine} {o : Activity} {s : State} (h : s.Worked e o) : Took e o (s, true) := ⟨h, nofun⟩

/-- The law behind a look at one chosen station. -/
def GrantStep.Fits (e : Engine) (o : Activity) : GrantStep → Prop
  | .again s => s.Free e o
  | .issued s => s.Worked e o

namespace State.Free
variable {s : State} {e : Engine} {o : Activity}

/-- A station with descriptor work is granted (R95). -/
theorem grantDescriptor (h : s.Free e o) {xs : List (Fin 64)} {i : Fin 64} (hi : s.hasWork e xs i = true) :
    (s.grantDescriptor e i).Fits e o := by
  obtain ⟨hcandidate, hstate, hclaim⟩ := State.hasWork_spec hi
  obtain ⟨henabled, hscope, -⟩ := State.candidate_spec hcandidate
  have busy : ∀ r, Calm s (s.setAttn i r) := fun r =>
    .setAttn_of_busy r (by rcases hstate with hs | hs <;> simp [hs]) (by rcases hstate with hs | hs <;> simp [hs])
  unfold State.grantDescriptor
  dsimp only
  split
  · refine h.calm ?_
    split
    · exact (busy _).trans (.handOver _ _ _)
    · exact busy _
  · split
    · exact h
    · refine (h.calm (busy _)).issue (State.inProgress_build _ _ _ _ _ _ _ (retryLimit_range _)) henabled hscope fun d hd => ?_
      injection hd with hd
      exact hd ▸ hclaim

theorem grantAcknowledge (h : s.Free e o) {xs : List (Fin 64)} {i : Fin 64} (hi : s.candidate e xs i = true) :
    (s.grantAcknowledge e i).Worked e o := by
  obtain ⟨henabled, hscope, -⟩ := State.candidate_spec hi
  exact h.issue (State.inProgress_build _ _ _ _ _ _ _ (retryLimit_range _)) henabled hscope nofun

theorem serveDemands (h : s.Free e o) (qs : List Demand) : Took e o (s.serveDemands e qs) := by
  induction qs generalizing s with
  | nil => exact .of_free h _
  | cons q rest ih =>
    have popped : (s.withEngine e fun en => { en with demands := rest }).Free e o := h.calm .withEngine
    unfold State.serveDemands
    dsimp only
    split
    · rename_i hq
      refine .of_worked (popped.issue (State.inProgress_build _ _ _ _ _ _ _ (retryLimit_range _)) ?_ ?_ nofun)
      · rw [State.withEngine_station]; exact hq.1
      · rw [State.withEngine_station, State.withEngine_arrangement]; exact of_decide_eq_true hq.2
    · exact ih (popped.calm (.demandNotice _ _ _ _ _ _))

theorem demandStep (h : s.Free e o) : Took e o (s.demandStep e) := by
  unfold State.demandStep
  split
  · exact h.serveDemands _
  · exact .of_free h _

theorem sweepStep (h : s.Free e o) (xs : List (Fin 64)) : Took e o (s.sweepStep e xs) := by
  unfold State.sweepStep
  split
  · split
    · rename_i i hi
      obtain ⟨henabled, hscope, -⟩ := State.candidate_spec (State.sweepSearch_spec hi)
      have visited : (s.withEngine e fun en => { en with visited := en.visited ++ [i], cursor := i + 1 }).Free e o :=
        h.calm .withEngine
      refine .of_worked (visited.issue (State.inProgress_build _ _ _ _ _ _ _ (by decide)) ?_ ?_ nofun)
      · rw [State.withEngine_station]; exact henabled
      · rw [State.withEngine_station, State.withEngine_arrangement]; exact hscope
    · exact .of_free (h.calm (.endSweep _ _)) _
  · exact .of_free h _

/-- The grant order, by the fuel that bounds its returns (R93, R94). -/
theorem grantFrom (h : s.Free e o) (n : Nat) (xs : List (Fin 64)) : Took e o (State.grantFrom n e xs s) := by
  induction n generalizing xs s with
  | zero => exact .of_free h _
  | succ n ih =>
    unfold State.grantFrom
    split
    · rename_i hi
      have hlook := h.grantDescriptor (State.urgentWork_spec hi)
      split <;> (rename_i heq; rw [heq] at hlook)
      · exact ih hlook _
      · exact .of_worked hlook
    split
    · rename_i hi
      exact .of_worked (h.grantAcknowledge (State.owedAcknowledge_spec hi))
    split
    · rename_i hi
      have hlook := h.grantDescriptor (State.importantWork_spec hi)
      split <;> (rename_i heq; rw [heq] at hlook)
      · exact ih hlook _
      · exact .of_worked hlook
    have hdemand := h.demandStep
    split
    · rename_i heq
      rw [heq] at hdemand
      exact hdemand
    · rename_i u heq
      rw [heq] at hdemand
      have hu : u.Free e o := hdemand.free rfl
      split
      · rename_i hi
        have hlook := hu.grantDescriptor (State.remainingWork_spec hi)
        split <;> (rename_i heq; rw [heq] at hlook)
        · exact ih hlook _
        · exact .of_worked hlook
      · exact hu.sweepStep xs

/-! ### Slots and cycles (R54 to R59) -/

theorem startSlot (h : s.Free e o) (n : Fin 128) (sl : Slot) : Took e o (s.startSlot e n sl) := by
  unfold State.startSlot
  split
  · rename_i f _
    have executed : (s.tally e .bumpExecuted).Free e o := h.calm (.tally _ _ _)
    split
    · exact .of_free (h.calm (.tally _ _ _)) _
    · rename_i hserved
      simp only [State.refusesSlot, Bool.or_eq_true, Bool.not_eq_true', not_or, Bool.not_eq_false, decide_eq_true_eq] at hserved
      obtain ⟨⟨⟨henabled, hscope⟩, -⟩, -⟩ := hserved
      have hen : ((s.tally e .bumpExecuted).station f.station).config.enabled = true := by
        rwa [State.tally, State.withEngine_station]
      have hsc : scopeOf (s.tally e .bumpExecuted).arrangement ((s.tally e .bumpExecuted).station f.station).config = e := by
        rw [State.tally, State.withEngine_station, State.withEngine_arrangement]
        exact of_decide_eq_true hscope
      split
      · exact .of_worked (executed.issue (State.inProgress_build _ _ _ _ _ _ _ (by decide)) hen hsc nofun)
      · exact .of_worked (executed.issue (State.inProgress_build _ _ _ _ _ _ _ (retryLimit_range _)) hen hsc nofun)
  · have hgrant : Took e o (s.grant e) := h.grantFrom _ _
    split
    · rename_i heq; rw [heq] at hgrant; exact .of_worked (hgrant.worked.calm (.tally _ _ _))
    · rename_i heq; rw [heq] at hgrant; exact .of_free ((hgrant.free rfl).calm (.tally _ _ _)) _

/-- An engine waits, for a slot or for the cycle's end (R54, R55). -/
theorem setActivity (h : s.Free e o) {a : Activity} (ha : ∀ tr, a ≠ .inTransaction tr) : (s.setActivity e a).Worked e o :=
  (h.withEngine ha h.going).worked

/-- A free engine takes slots, by the fuel that bounds them. -/
theorem takeFrom (h : s.Free e o) (n : Nat) : (State.takeFrom n e s).Worked e o := by
  induction n generalizing s with
  | zero => exact h.worked
  | succ n ih =>
    have passed : ∀ f, ((s.tally e f).nextSlot e).Free e o := fun f => (h.calm (.tally _ _ _)).calm (.nextSlot _ _)
    unfold State.takeFrom
    dsimp only
    split
    · rename_i hlt
      have hstart := h.startSlot ⟨(s.engine e).next, hlt⟩ (s.engine e).activeBank.slots[(s.engine e).next]
      split
      · split
        · exact ih (passed _)
        split
        · exact h.setActivity fun _ => Activity.noConfusion
        split
        · exact ih (passed _)
        split
        · exact h.setActivity fun _ => Activity.noConfusion
        split
        · rename_i heq; rw [heq] at hstart; exact hstart.worked
        · rename_i heq; rw [heq] at hstart; exact ih ((hstart.free rfl).calm (.nextSlot _ _))
      · exact h.setActivity fun _ => Activity.noConfusion
    · exact h.setActivity fun _ => Activity.noConfusion

theorem takeSlots (h : s.Free e o) : (s.takeSlots e).Worked e o := h.takeFrom _

end State.Free

end Sys2Proof.Machine
end

section
/-!
The events of an engine under the attention law (O59): cycles, the end of a transaction, and the stops.
-/

namespace Sys2Proof.Machine

@[simp] theorem EngineState.swapIfArmed_activity (en : EngineState) : en.swapIfArmed.activity = en.activity := by
  unfold EngineState.swapIfArmed; split <;> rfl

/-- Whether an engine holds a transaction. -/
theorem EngineState.inTransaction_eq_false {en : EngineState} (h : en.inTransaction = false) (t : Transaction) :
    en.activity ≠ .inTransaction t := fun ht => by
  rw [EngineState.inTransaction, ht] at h
  cases h

namespace State.AttentionFit
variable {s : State} {e : Engine}

/-- An engine without a transaction that is not STOPPED is free. -/
theorem free (h : s.AttentionFit) (hf : ∀ t, (s.engine e).activity ≠ .inTransaction t) (hr : (s.engine e).run ≠ .stopped) :
    s.Free e (s.engine e.other).activity := ⟨h, hf, hr, rfl⟩

/-- An engine that waits, or is in GAP, is free: it is not STOPPED (R44). -/
theorem free_of_activity (h : s.AttentionFit) {a : Activity} (ha : (s.engine e).activity = a) (hn : a ≠ .none)
    (hf : ∀ t, a ≠ .inTransaction t) : s.Free e (s.engine e.other).activity :=
  h.free (ha ▸ hf) fun hr => hn (ha.symm.trans ((h.engine e).stopped hr).1)

/-! ### Cycles (R45, R51, R54) -/

theorem startEngine (h : s.AttentionFit) (hidle : (s.engine e).activity = .none) :
    (s.startEngine e).Worked e (s.engine e.other).activity := by
  refine State.Free.takeSlots ⟨?_, fun t => ?_, ?_, ?_⟩
  · refine h.withEngine (fun t => ?_) (EngineState.stoppedIdle_of_running (by simp [EngineState.openCycle]))
    simp [EngineState.openCycle]
  · simp [EngineState.openCycle, hidle]
  · simp [EngineState.openCycle]
  · rw [State.withEngine_engine_other _ _ (other_side_ne e)]

theorem startCycle (h : s.AttentionFit) (hr : (s.engine e).run ≠ .stopped) : (s.startCycle e).AttentionFit := by
  have opened : (s.withEngine e fun en =>
      ({ en.swapIfArmed with cycle := en.cycle + 1 } : EngineState).openCycle s.time).AttentionFit := by
    refine h.withEngine (fun t => ?_) (EngineState.stoppedIdle_of_running ?_)
    · simp [EngineState.openCycle]
    · simpa [EngineState.openCycle] using hr
  unfold State.startCycle
  dsimp only
  split
  · rename_i ha; exact (opened.free_of_activity ha Activity.noConfusion fun _ => Activity.noConfusion).takeSlots.fit
  · rename_i ha; exact (opened.free_of_activity ha Activity.noConfusion fun _ => Activity.noConfusion).takeSlots.fit
  all_goals exact opened

theorem periodExpires (h : s.AttentionFit) : (s.periodExpires e).AttentionFit := by
  have closed := h.calm (.closeCycle s e)
  have hrun := ((Calm.closeCycle s e).engine e).2.1
  unfold State.periodExpires
  split
  · rename_i hr; exact closed.startCycle (by simp [hrun, hr])
  · rename_i hr; exact closed.startCycle (by simp [hrun, hr])
  · rename_i hr
    dsimp only
    split
    · exact closed.withEngine (fun _ => Iff.rfl) (EngineState.stoppedIdle_of_running (by simp [hrun, hr]))
    all_goals
      rename_i ha
      exact closed.stopEngine (by simp [ha]) _
  · exact h
  · exact h

theorem slotStarts (h : s.AttentionFit) (hw : (s.engine e).activity = .waiting) : (s.slotStarts e).AttentionFit := by
  have free := h.free_of_activity hw Activity.noConfusion fun _ => Activity.noConfusion
  unfold State.slotStarts
  dsimp only
  split
  · rename_i hlt
    have hstart := free.startSlot ⟨(s.engine e).next, hlt⟩ (s.engine e).activeBank.slots[(s.engine e).next]
    split
    · rename_i heq; rw [heq] at hstart; exact hstart.worked.fit
    · rename_i heq; rw [heq] at hstart; exact ((hstart.free rfl).calm (.nextSlot _ _)).takeSlots.fit
  · exact h

theorem portReady (h : s.AttentionFit) (p : PortId) : (s.portReady e p).AttentionFit := by
  unfold State.portReady
  split
  · rename_i ha
    exact (h.free_of_activity ha Activity.noConfusion fun _ => Activity.noConfusion).takeSlots.fit
  · exact h

end State.AttentionFit

/-! ### A transaction comes to its end (R27, R70, R72) -/

/-- What the results and the completion of a transaction leave alone: its engine, and what other flights rest on. -/
structure Closing (t : Transaction) (s u : State) : Prop where
  arrangement : u.arrangement = s.arrangement
  engine : ∀ x, (u.engine x).activity = (s.engine x).activity ∧ (u.engine x).run = (s.engine x).run ∧
    (u.engine x).timer = (s.engine x).timer
  config : ∀ i, (u.station i).config = (s.station i).config
  others : ∀ i, i ≠ t.subject → (u.station i).inTransaction = (s.station i).inTransaction
  kept : ∀ d, t.source ≠ .transfer d → u.claim d = s.claim d
  admits : (∀ i, (s.station i).Admits (s.attn i).state) → ∀ i, (u.station i).Admits (u.attn i).state

/-- The transaction's marks are gone as well. -/
structure Closed (t : Transaction) (s u : State) : Prop extends Closing t s u where
  unmarked : (u.station t.subject).inTransaction = none
  released : ∀ d, t.source = .transfer d → u.claim d = none

/-- A transfer's claim is released (R71, R72). -/
def State.release (s : State) (src : Source) : State :=
  match src with
  | .transfer d => s.setClaim d none
  | _ => s

theorem State.release_claim (s : State) (src : Source) (d : Fin 32) : (src = .transfer d → (s.release src).claim d = none) ∧
    (src ≠ .transfer d → (s.release src).claim d = s.claim d) := by
  unfold State.release
  cases src with
  | transfer x =>
    refine ⟨fun h => ?_, fun h => State.setClaim_claim_other s _ fun hx => h (congrArg Source.transfer hx.symm)⟩
    injection h with h
    subst h
    exact State.setClaim_claim _ _ _
  | _ => exact ⟨nofun, fun _ => rfl⟩

theorem Calm.closing {s u : State} (h : Calm s u) (t : Transaction) : Closing t s u :=
  ⟨h.arrangement, h.engine, fun i => (h.station i).1, fun i _ => (h.station i).2, fun d _ => h.claim d, h.admits⟩

namespace Closing
variable {t : Transaction} {s u v : State}

theorem trans (h : Closing t s u) (k : Closing t u v) : Closing t s v where
  arrangement := k.arrangement.trans h.arrangement
  engine x := ⟨(k.engine x).1.trans (h.engine x).1, (k.engine x).2.1.trans (h.engine x).2.1,
    (k.engine x).2.2.trans (h.engine x).2.2⟩
  config i := (k.config i).trans (h.config i)
  others i hi := (k.others i hi).trans (h.others i hi)
  kept d hd := (k.kept d hd).trans (h.kept d hd)
  admits := k.admits ∘ h.admits

/-- The results of an enabled station: one that is OFFLINE behind them is CLEAR or HELD (R92). -/
theorem stationResults (s : State) {t : Transaction} (o : LineOutcome) (he : (s.station t.subject).config.enabled = true) :
    Closing t s (s.stationResults t o) := by
  have on := OnStation.stationResults s t o
  refine ⟨(EngineFrame.stationResults s t o).arrangement, fun x => by rw [on.engine]; exact ⟨rfl, rfl, rfl⟩, fun i => ?_,
    fun i hi => by rw [(on.others i hi).1], fun d _ => congrArg (·[d]) (s.stationResults_claims t o), fun h i => ?_⟩
  · by_cases hi : i = t.subject
    · subst hi; exact on.config
    · rw [(on.others i hi).1]
  · by_cases hi : i = t.subject
    · subst hi
      refine ⟨fun hd => absurd (on.config ▸ hd) (by simp [he]), fun ho => ?_⟩
      rw [s.stationResults_attn t o]
      by_cases hheld : ((s.afterReplies t).attn t.subject).state = .held
      · exact .inr (by rw [if_neg fun hc => hc.2 hheld]; exact hheld)
      · exact .inl (by rw [if_pos ⟨ho, hheld⟩]; rfl)
    · rw [(on.others i hi).1, (on.others i hi).2]
      exact h i

/-- The release of the transaction's claim behind its results and a calm completion. -/
theorem release (h : Closing t s u) (hm : (u.station t.subject).inTransaction = none) (k : Calm u v) :
    Closed t s (v.release t.source) := by
  have hrelease := v.release_claim t.source
  have hstation : ∀ i, (v.release t.source).station i = v.station i := fun i => by unfold State.release; split <;> rfl
  refine ⟨(h.trans (k.closing t)).trans ⟨?_, fun x => ?_, fun i => ?_, fun i _ => ?_, fun d => (hrelease d).2, fun ha i => ?_⟩,
    ?_, fun d => (hrelease d).1⟩
  · unfold State.release; split <;> rfl
  · unfold State.release; split <;> simp
  · rw [hstation]
  · rw [hstation]
  · have hattn : (v.release t.source).attn i = v.attn i := by unfold State.release; split <;> rfl
    rw [hstation, hattn]
    exact ha i
  · rw [hstation, (k.station _).2, hm]

end Closing

theorem Closed.calm {t : Transaction} {s u v : State} (h : Closed t s u) (k : Calm u v) : Closed t s v where
  toClosing := h.toClosing.trans (k.closing t)
  unmarked := (k.station _).2.trans h.unmarked
  released d hd := (k.claim d).trans (h.released d hd)

theorem sourceCompletion_eq_release (s : State) (e : Engine) (t : Transaction) (o : LineOutcome) :
    ∃ u, Calm s u ∧ s.sourceCompletion e t o = u.release t.source := by
  unfold State.sourceCompletion State.release
  cases t.source with
  | transfer d => exact ⟨_, .ite (.completeTransfer _ _ _ _) (.refl _), rfl⟩
  | sweep => exact ⟨_, .sweepStepEnd _ _ _, rfl⟩
  | demand q => exact ⟨_, .demandNotice _ _ _ _ _ _, rfl⟩
  | _ => exact ⟨_, .refl _, rfl⟩

theorem abortCompletion_eq_release (s : State) (e : Engine) (t : Transaction) :
    ∃ u, Calm s u ∧ s.abortCompletion e t = u.release t.source := by
  unfold State.abortCompletion State.release
  cases t.source with
  | demand q => exact ⟨_, .demandNotice _ _ _ _ _ _, rfl⟩
  | _ => exact ⟨_, .refl _, rfl⟩

/-- The engine of a closed transaction turns to something else. -/
theorem Closed.leaves {t tr : Transaction} {s u : State} {e : Engine} (k : Closed t s u) (h : s.AttentionFit)
    (ht : (s.engine e).activity = .inTransaction tr) (hsubject : tr.subject = t.subject) (hsource : tr.source = t.source)
    {g : EngineState → EngineState} (hg : ∀ x, (g (u.engine e)).activity ≠ .inTransaction x)
    (hs : (g (u.engine e)).StoppedIdle) : (u.withEngine e g).AttentionFit := by
  obtain ⟨-, hmarked, -, -, hclaim⟩ := (h.engine e).flight tr ht
  rw [hsubject] at hmarked
  rw [hsource] at hclaim
  refine ⟨fun i => by simpa using k.admits h.admits i, fun x => ?_⟩
  by_cases hx : x = e
  · subst hx
    refine .of_free (by rwa [State.withEngine_engine]) (fun i hi => ?_) (fun d hd => ?_) (by rwa [State.withEngine_engine])
    · rw [State.withEngine_station] at hi
      by_cases his : i = t.subject
      · subst his; rw [k.unmarked] at hi; cases hi
      · obtain ⟨y, hy, rfl⟩ := (h.engine x).marks i ((k.others i his).symm.trans hi)
        obtain rfl : tr = y := by rw [ht] at hy; injection hy
        exact his hsubject
    · rw [State.withEngine_claim] at hd
      by_cases hds : t.source = .transfer d
      · rw [k.released d hds] at hd; cases hd
      · obtain ⟨y, hy, hyd⟩ := (h.engine x).claims d ((k.kept d hds).symm.trans hd)
        obtain rfl : tr = y := by rw [ht] at hy; injection hy
        exact hds (hsource.symm.trans hyd)
  · have hother := State.withEngine_engine_other u g hx
    obtain ⟨hactivity, hrun, htimer⟩ := k.engine x
    have apart : some e ≠ some x := fun he => hx (Option.some.inj he).symm
    refine (h.engine x).congr ⟨by rw [hother, hactivity], fun hst => ?_, fun i => ?_, fun i _ => ?_, fun d => ?_⟩
    · rw [hother]
      unfold EngineState.StoppedIdle
      rwa [hactivity, hrun, htimer]
    · rw [State.withEngine_station]
      by_cases his : i = t.subject
      · subst his
        rw [k.unmarked, hmarked]
        exact iff_of_false nofun apart
      · rw [k.others i his]
    · rw [State.withEngine_station, State.withEngine_arrangement, k.config, k.arrangement]
      exact ⟨rfl, rfl⟩
    · rw [State.withEngine_claim]
      by_cases hds : t.source = .transfer d
      · rw [k.released d hds, hclaim d hds]
        exact iff_of_false nofun apart
      · rw [k.kept d hds]

namespace State.AttentionFit
variable {s : State} {e : Engine}

/-- The end of the transaction in flight, in R70's order; `t` is its record as the last report left it. -/
theorem endTransaction (h : s.AttentionFit) {t tr : Transaction} (ht : (s.engine e).activity = .inTransaction tr)
    (hsubject : tr.subject = t.subject) (hsource : tr.source = t.source) (o : LineOutcome) (p : PortId) :
    (s.endTransaction e t o p).AttentionFit := by
  have henabled : ((s.deliverWords t o).station t.subject).config.enabled = true := by
    rw [((Calm.deliverWords s t o).station _).1, ← hsubject]
    exact ((h.engine e).flight tr ht).enabled
  have results := ((Calm.deliverWords s t o).closing t).trans (.stationResults _ o henabled)
  obtain ⟨u, hu, hcompletion⟩ := sourceCompletion_eq_release ((s.deliverWords t o).stationResults t o) e t o
  have closed := results.release (State.stationResults_inTransaction _ t o) hu
  rw [← hcompletion] at closed
  have closed := ((closed.calm (.slotFlip _ e t)).calm (.tallyFailed _ e o)).calm (.handOverResults _ t (s.attn t.subject).state)
  unfold State.endTransaction
  dsimp only
  generalize State.handOverResults _ t (s.attn t.subject).state = w at closed
  have hrun : (w.engine e).run ≠ .stopped := by
    rw [(closed.engine e).2.1]
    exact (h.engine e).running ht
  let left := w.withEngine e fun en => { en.leaveSlot with activity := .gap p }
  have leftFits : left.AttentionFit := closed.leaves h ht hsubject hsource (fun _ => Activity.noConfusion)
    (EngineState.stoppedIdle_of_running hrun)
  have leftFree : ∀ x, (left.engine e).activity ≠ .inTransaction x := by simp [left]
  unfold State.leaveTransaction
  dsimp only
  (repeat' split) <;> first | exact leftFits | exact leftFits.stopEngine leftFree _

/-- Attempts remain, and the transaction goes on (R67, R68). -/
theorem handAttempt (h : s.AttentionFit) {t tr : Transaction} (ht : (s.engine e).activity = .inTransaction tr)
    (hsubject : tr.subject = t.subject) (hsource : tr.source = t.source) (hp : t.InProgress) (line : Line) :
    (s.handAttempt e t line).AttentionFit := by
  unfold State.handAttempt
  refine State.AttentionFit.calm ?_ (.withPort _ _ _)
  obtain ⟨-, hmarked, henabled, hscope, hclaim⟩ := (h.engine e).flight tr ht
  rw [hsubject] at hmarked henabled hscope
  rw [hsource] at hclaim
  refine ⟨by simpa using h.admits, fun x => ?_⟩
  by_cases hx : x = e
  · subst hx
    exact {
      flight := fun y hy => by
        rw [State.withEngine_engine] at hy
        injection hy with hy
        subst hy
        exact ⟨hp, by simpa using hmarked, by simpa using henabled, by simpa using hscope, by simpa using hclaim⟩
      marks := fun i hi => by
        obtain ⟨y, hy, hyi⟩ := (h.engine x).marks i (by simpa using hi)
        obtain rfl : tr = y := by rw [ht] at hy; injection hy
        exact ⟨{ t with lastLine := some line }, by rw [State.withEngine_engine], hsubject ▸ hyi⟩
      claims := fun d hd => by
        obtain ⟨y, hy, hyd⟩ := (h.engine x).claims d (by simpa using hd)
        obtain rfl : tr = y := by rw [ht] at hy; injection hy
        exact ⟨{ t with lastLine := some line }, by rw [State.withEngine_engine], hsource ▸ hyd⟩
      stopped := by
        rw [State.withEngine_engine]
        exact EngineState.stoppedIdle_of_running ((h.engine x).running ht) }
  · have hother := fun g => State.withEngine_engine_other s g hx
    exact (h.engine x).congr ⟨by rw [hother], by rw [hother]; exact id, by simp, by simp, by simp⟩

theorem takeReport (h : s.AttentionFit) (p : PortId) (r : Report) : (s.takeReport e p r).AttentionFit := by
  unfold State.takeReport
  split
  · rename_i tr ht
    dsimp only
    split
    · exact h.endTransaction (t := (tr.record p r s.time).finish r.outcome) ht rfl rfl _ _
    · rename_i hon
      refine h.handAttempt (t := tr.record p r s.time) ht rfl rfl ?_ _
      obtain ⟨houtcome, -, hlimit, hstatuses⟩ := ((h.engine e).flight tr ht).progress
      refine ⟨houtcome, Nat.lt_of_not_le fun hle => hon (.inr hle), hlimit, ?_⟩
      unfold Transaction.record
      dsimp only
      split
      · rw [List.length_append]; exact Nat.succ_le_succ hstatuses
      · exact Nat.le_succ_of_le hstatuses
  all_goals exact h

theorem endAttempt (h : s.AttentionFit) (p : PortId) (a : Attempt) (r : Report) : (s.endAttempt p a r).AttentionFit :=
  (h.calm (.withPort s p Port.turn)).takeReport p r

/-! ### Stops (R46 to R50) -/

/-- ABORT (R49, R72). -/
theorem abortEngine (h : s.AttentionFit) : (s.abortEngine e).AttentionFit := by
  unfold State.abortEngine
  split
  · rename_i tr ht
    let t := tr.finish .aborted
    let cut := (s.withPort .a (Port.abort e)).withPort .b (Port.abort e)
    have hcut : Calm s cut := (Calm.withPort _ _ _).trans (.withPort _ _ _)
    have henabled : (cut.station t.subject).config.enabled = true := by
      rw [(hcut.station _).1]
      exact ((h.engine e).flight tr ht).enabled
    have results : Closing t s (cut.stationResults t .aborted) := (hcut.closing t).trans (.stationResults cut _ henabled)
    obtain ⟨u, hu, hcompletion⟩ := abortCompletion_eq_release (cut.stationResults t .aborted) e t
    have closed := results.release (State.stationResults_inTransaction cut t .aborted) hu
    rw [← hcompletion] at closed
    have closed := closed.calm (.handOverResults _ t (s.attn t.subject).state)
    have halted := closed.leaves h ht rfl rfl (g := fun en => en.leaveSlot.halt) (fun _ => Activity.noConfusion)
      (EngineState.stoppedIdle_halt _)
    rw [← State.withEngine_withEngine] at halted
    exact halted.calm (.stopEngine _ e .abort)
  all_goals
    rename_i ha
    exact h.stopEngine (by simp [ha]) _

end State.AttentionFit

end Sys2Proof.Machine
end

section
/-!
The requests under the attention law (O59): most are calm; the others start or stop an engine, configure a station, or serve the
stack.
-/

namespace Sys2Proof.Machine

/-! ### Calm requests -/

namespace Calm

theorem ok {s t : State} (h : Calm s t) (items : List Byte) : Calm s (t.ok items).state := h

theorem accepted {s t : State} (h : Calm s t) (items : List Byte) : Calm s (t.accepted items).state := h

/-- A mask set at one record, which is PENDING when it enters ESCALATED (R86). -/
theorem maskRecord (s : State) (i : Fin 64) : Calm s (s.maskRecord i) := by
  unfold State.maskRecord
  split
  · rename_i hm
    simp only [State.maskEscalates, Bool.and_eq_true, decide_eq_true_eq] at hm
    obtain ⟨⟨hpending, -⟩, -⟩ := hm
    exact (setAttn_of_busy _ (by simp [hpending]) (by simp [hpending])).trans (handOver _ _ _)
  · exact refl s

theorem maskSet (s : State) : Calm s s.maskSet := foldl _ maskRecord _ _

theorem doPartSet (s : State) (m d n : Byte) : Calm s (s.doPartSet m d n).state := by
  unfold State.doPartSet
  split
  · rename_i m' d' _ _
    have written : Calm s { s with mask := m', demandLevel := d', enables := .ofByte n } := of_quiet
    exact ite written (written.trans (maskSet _))
  · exact refl s

theorem doPortSet (s : State) (p : Byte) (l : List Byte) : Calm s (s.doPortSet p l).state := by
  unfold State.doPortSet
  split
  · split
    · exact ok (withPort _ _ _) _
    · exact refl s
  · exact refl s

theorem doPortGet (s : State) (p : Byte) : Calm s (s.doPortGet p).state := by
  unfold State.doPortGet; split <;> exact refl s

theorem doLineStatus (s : State) (e : Byte) : Calm s (s.doLineStatus e).state := by
  unfold State.doLineStatus; split <;> exact refl s

theorem withShadow (s : State) (e : Engine) (f : Bank → Bank) : Calm s (s.withShadow e f) := by
  have shadowed : ∀ (en : EngineState) (b : BankId) (x : Bank), (en.setBank b x).activity = en.activity ∧
      (en.setBank b x).run = en.run ∧ (en.setBank b x).timer = en.timer := fun en b x => by cases b <;> exact ⟨rfl, rfl, rfl⟩
  obtain ⟨hactivity, hrun, htimer⟩ := shadowed (s.engine e) (s.engine e).active.other (f ((s.engine e).bank (s.engine e).active.other))
  exact withEngine hactivity hrun htimer

theorem doSlotSet (s : State) (e n : Byte) (l : List Byte) : Calm s (s.doSlotSet e n l).state := by
  unfold State.doSlotSet
  split
  · exact ok (withShadow _ _ _) _
  · exact refl s

theorem doSlotGet (s : State) (e b n : Byte) : Calm s (s.doSlotGet e b n).state := by
  unfold State.doSlotGet; split <;> exact refl s

theorem doBankHeaderSet (s : State) (e : Byte) (l : List Byte) : Calm s (s.doBankHeaderSet e l).state := by
  unfold State.doBankHeaderSet
  split
  · exact ok (withShadow _ _ _) _
  · exact refl s

theorem doBankHeaderGet (s : State) (e b : Byte) : Calm s (s.doBankHeaderGet e b).state := by
  unfold State.doBankHeaderGet; split <;> exact refl s

theorem doBankCopy (s : State) (e : Byte) : Calm s (s.doBankCopy e).state := by
  unfold State.doBankCopy
  split
  · exact ok (withShadow _ _ _) _
  · exact refl s

theorem doBankSwap (s : State) (e x : Byte) : Calm s (s.doBankSwap e x).state := by
  unfold State.doBankSwap
  split
  · exact ok withEngine _
  · exact refl s

theorem doStationGet (s : State) (i : Byte) : Calm s (s.doStationGet i).state := by
  unfold State.doStationGet; split <;> exact refl s

theorem doDescriptorSet (s : State) (d : Byte) (l : List Byte) : Calm s (s.doDescriptorSet d l).state := by
  unfold State.doDescriptorSet
  split
  · split
    · exact refl s
    · exact ok (setDescriptor _ _ _) _
  · exact refl s

theorem doDescriptorGet (s : State) (d : Byte) : Calm s (s.doDescriptorGet d).state := by
  unfold State.doDescriptorGet; split <;> exact refl s

theorem doPairSet (s : State) (p d : Byte) : Calm s (s.doPairSet p d).state := by
  unfold State.doPairSet
  split
  · split
    · exact ok (setPair _ _ _) _
    · exact refl s
  · exact refl s

theorem doPairGet (s : State) (p : Byte) : Calm s (s.doPairGet p).state := by
  unfold State.doPairGet; split <;> exact refl s

theorem doPairRead (s : State) (p k n : Byte) : Calm s (s.doPairRead p k n).state := by
  unfold State.doPairRead
  split
  · split <;> exact refl s
  · exact refl s

theorem doPairWrite (s : State) (p k : Byte) (ws : List Word) : Calm s (s.doPairWrite p k ws).state := by
  unfold State.doPairWrite
  split
  · dsimp only
    split
    · exact refl s
    split
    · exact refl s
    split
    · exact refl s
    · exact ok (setPair _ _ _) _
  · exact refl s

theorem handlePairWrite (s : State) (p k : Byte) (l : List Byte) : Calm s (s.handlePairWrite p k l).state := by
  unfold State.handlePairWrite
  split
  · split
    · exact doPairWrite _ _ _ _
    · exact refl s
  · exact refl s

theorem doPairRelease (s : State) (p : Byte) : Calm s (s.doPairRelease p).state := by
  unfold State.doPairRelease
  split
  · split
    · exact refl s
    · exact ok (setPair _ _ _) _
  · exact refl s

theorem doPairCommit (s : State) (p : Byte) : Calm s (s.doPairCommit p).state := by
  unfold State.doPairCommit
  split
  · split
    · exact refl s
    · exact ok (setPair _ _ _) _
  · exact refl s

theorem doDemand (s : State) (tag e i k : Byte) (pt : Word) (n : Byte) (ws : List Word) :
    Calm s (s.doDemand tag e i k pt n ws).state := by
  unfold State.doDemand
  split
  · exact refl s
  split
  · split
    · exact refl s
    split
    · exact refl s
    split
    · exact refl s
    split
    · exact refl s
    split
    · exact refl s
    · exact accepted withEngine _
  · exact refl s

theorem handleDemand (s : State) (tag e i k p1 p0 n : Byte) (l : List Byte) :
    Calm s (s.handleDemand tag e i k p1 p0 n l).state := by
  unfold State.handleDemand
  split
  · split
    · exact doDemand _ _ _ _ _ _ _ _
    · exact refl s
  · exact refl s

/-! #### The service stack (R136, R137, R141) -/

theorem reoffer (s : State) : Calm s s.reoffer := by
  unfold State.reoffer
  split
  · exact ite (raise _ _) (refl _)
  · exact refl s

/-- The station that TAKE pushes is ESCALATED, and so can be served. -/
theorem doTake (s : State) : Calm s s.doTake.state := by
  unfold State.doTake
  split
  · exact refl s
  split
  · rename_i i hi
    split
    · have hescalated : (s.attn i).state = .escalated := of_decide_eq_true (highest_spec hi)
      have held : Calm s (s.setAttn i { s.attn i with state := .held }) :=
        setAttn_of_busy _ (by simp [hescalated]) (by simp [hescalated])
      exact ok (held.trans of_quiet) _
    · exact refl s
  · exact refl s

/-! #### The store -/

theorem ofStore (s : State) (r : Region) (x : Store) (im : ImageState) :
    Calm s { s with region := r, store := x, imageState := im } := of_quiet

theorem endStore (s : State) (save : Bool) (o : StoreOutcome) (im : ImageState) : Calm s (s.endStore save o im) :=
  (ofStore s s.region .idle im).trans (raise _ _)

theorem cancelStore (s : State) (byPin : Bool) : Calm s (s.cancelStore byPin) :=
  (ofStore s s.cancelledRegion s.store s.imageState).trans (endStore _ _ _ _)

theorem beginStore (s : State) (op : StoreOp) : Calm s (s.beginStore op) := by
  unfold State.beginStore State.beginErase
  exact ofStore s _ _ _

theorem doStoreSave (s : State) (a b : Byte) : Calm s (s.doStoreSave a b).state := by
  unfold State.doStoreSave
  split
  · split
    · exact refl s
    split
    · exact accepted (beginStore _ _) _
    · exact refl s
  · exact refl s

theorem doStoreErase (s : State) : Calm s s.doStoreErase.state := by
  unfold State.doStoreErase
  split
  · exact refl s
  split
  · exact accepted (beginStore _ _) _
  · exact refl s

theorem doStoreCancel (s : State) : Calm s s.doStoreCancel.state := by
  unfold State.doStoreCancel
  split
  · exact refl s
  · exact ok (cancelStore _ _) _

/-- The Arbiter's response to a configuration of a station that is not OFFLINE (R91). -/
theorem reconfigure {s : State} {i : Fin 64} (hh : (s.station i).health ≠ .offline) : Calm s (s.reconfigure i) := by
  rw [State.reconfigure_eq]
  dsimp only
  split
  · exact setAttn fun _ => Station.admits_clear _
  rename_i he
  have served : ∀ r, Calm s (s.setAttn i r) := fun r =>
    setAttn fun _ => Station.admits_of_servable (Bool.of_not_eq_false he) hh _
  exact ite (ite ((served _).trans (handOver _ _ _)) (served _)) (refl s)

end Calm

/-! ### Requests that change what a flight rests on -/

/-- The stations on the service stack are HELD (fifth law). -/
def State.StackHeld (s : State) : Prop := ∀ x ∈ s.stack, (s.attn x.station).state = .held

theorem State.ServiceSound.stackHeld {s : State} (h : s.ServiceSound) : s.StackHeld := fun x hx =>
  (h.1.2.1 x.station).mpr (List.mem_map_of_mem hx)

/-- DONE takes a HELD record off the stack (R140): the station is enabled, and ACKING when it is not OFFLINE. -/
theorem Calm.doDone {s : State} (h : s.StackHeld) : Calm s s.doDone.state := by
  unfold State.doDone
  split
  · exact .refl s
  rename_i x rest hstack
  have popped : Calm s { s with stack := rest } := .of_quiet
  have hheld : (s.attn x.station).state = .held := h x (hstack ▸ List.mem_cons_self)
  refine Calm.ok ((popped.trans ?_).trans (.reoffer _)) _
  unfold State.releaseStation
  split
  · exact .setAttn fun _ => Station.admits_clear _
  · rename_i hh
    refine .setAttn fun hadmits => ⟨fun hd => ?_, fun ho => absurd ho hh⟩
    have hclear : (s.attn x.station).state = .clear := hadmits.1 hd
    rw [hheld] at hclear
    cases hclear

namespace State.AttentionFit
variable {s : State}

theorem setStopping (h : s.AttentionFit) (e : Engine) (m : StopMode) : (s.setStopping e m).AttentionFit := by
  have stopping : (s.withEngine e fun en => { en with run := .stopping m }).AttentionFit :=
    h.withEngine (fun _ => Iff.rfl) (EngineState.stoppedIdle_of_running RunState.noConfusion)
  unfold State.setStopping
  dsimp only
  split
  · exact stopping
  · split
    · exact stopping
    · rename_i hno
      exact stopping.stopEngine (EngineState.inTransaction_eq_false (Bool.of_not_eq_true hno)) _
  · exact stopping.abortEngine

theorem doLineStart (h : s.AttentionFit) (e : Byte) : (s.doLineStart e).state.AttentionFit := by
  unfold State.doLineStart
  split
  · split
    · exact h
    split
    · rename_i hstopped
      exact (h.startEngine ((h.engine _).stopped (of_decide_eq_true hstopped)).1).fit
    · exact h
  · exact h

theorem doLineStop (h : s.AttentionFit) (e m : Byte) : (s.doLineStop e m).state.AttentionFit := by
  unfold State.doLineStop
  split
  · split
    · exact h
    · exact h.setStopping _ _
    · split
      · exact h.setStopping _ _
      · exact h
  · exact h

/-- A station in no transaction is configured; a station that is disabled has its record CLEAR (R23). -/
theorem configure (h : s.AttentionFit) {i : Fin 64} (hi : (s.station i).inTransaction = none) {c : StationConfig}
    (hc : c.enabled = false → (s.attn i).state = .clear) : (s.withStation i (Station.configured · c)).AttentionFit := by
  have hmarks : ∀ j, ((s.withStation i (Station.configured · c)).station j).inTransaction = (s.station j).inTransaction := fun j => by
    by_cases hj : j = i
    · subst hj; rw [State.withStation_station]; rfl
    · rw [State.withStation_station_other s _ hj]
  refine ⟨fun j => ?_, fun x => (h.engine x).congr ⟨by simp, by simp, fun j => by rw [hmarks], fun j hj => ?_, by simp⟩⟩
  · rw [State.withStation_attn]
    by_cases hj : j = i
    · subst hj
      rw [State.withStation_station]
      exact ⟨hc, nofun⟩
    · rw [State.withStation_station_other s _ hj]
      exact h.admits j
  · have hne : j ≠ i := fun he => by rw [he, hi] at hj; cases hj
    rw [State.withStation_station_other s _ hne, State.withStation_arrangement]
    exact ⟨rfl, rfl⟩

theorem doStationSet (h : s.AttentionFit) (i : Byte) (l : List Byte) : (s.doStationSet i l).state.AttentionFit := by
  unfold State.doStationSet
  split
  · rename_i i c _ _
    split
    · exact h
    split
    · exact h
    rename_i hbusy _
    have hnone : (s.station i).inTransaction = none := by
      by_contra hne
      exact hbusy ((s.stationBusy_iff i).mpr (.inl hne))
    have hhealth : ((s.withStation i (Station.configured · c)).station i).health ≠ .offline := by
      rw [State.withStation_station]
      exact Health.noConfusion
    cases he : c.enabled with
    | true => exact (h.configure hnone fun hd => absurd (he.symm.trans hd) (by decide)).calm (.reconfigure hhealth)
    | false =>
      have cleared : (s.setAttn i .none).AttentionFit := h.calm (.setAttn fun _ => Station.admits_clear _)
      have hreconfigure : (s.withStation i (Station.configured · c)).reconfigure i =
          (s.setAttn i .none).withStation i (Station.configured · c) := by
        rw [State.reconfigure_eq, State.withStation_station]
        exact if_pos he
      show ((s.withStation i (Station.configured · c)).reconfigure i).AttentionFit
      rw [hreconfigure]
      exact cleared.configure hnone fun _ => by rw [State.setAttn_attn]; rfl
  · exact h

/-- ARRANGE finds both engines STOPPED, and so no transaction (R34, R35). -/
theorem doArrange (h : s.AttentionFit) (x : Byte) : (s.doArrange x).state.AttentionFit := by
  unfold State.doArrange
  split
  · rename_i y _
    split
    · rename_i hstop
      split
      · exact h
      have hidle : ∀ e, (s.engine e).activity = .none ∧ (s.engine e).timer = none := fun e => by
        cases e
        · exact (h.engine .a).stopped (of_decide_eq_true hstop.1)
        · exact (h.engine .b).stopped (of_decide_eq_true hstop.2)
      have hno : ∀ e t, (s.engine e).activity ≠ .inTransaction t := fun e => by simp [(hidle e).1]
      let renewed : State := { s with arrangement := y, stations := s.stations.map Station.rearranged }
      have hstation : ∀ i, renewed.station i = (s.station i).rearranged := fun i => by simp [renewed, State.station]
      have renewedFits : renewed.AttentionFit := by
        refine State.attentionFit_of_idle (fun i => ?_) (fun e => by cases e; exacts [hidle .a, hidle .b]) (fun i => ?_) fun d => ?_
        · rw [hstation]
          exact ⟨(h.admits i).1, nofun⟩
        · rw [hstation]
          exact Option.eq_none_iff_forall_ne_some.mpr fun e => (h.engine e).unmarked (hno e) i
        · exact Option.eq_none_iff_forall_ne_some.mpr fun e => (h.engine e).unclaimed (hno e) d
      show (s.rearrange y).AttentionFit
      unfold State.rearrange
      dsimp only
      split
      · exact renewedFits
      · exact renewedFits.calm ((Calm.discardDemands _ _).trans (.discardDemands _ _))
    · exact h
  · exact h

/-- A request keeps the law, whatever its KIND and payload: it is answered by its owner or refused. -/
theorem handle (h : s.AttentionFit) (hs : s.StackHeld) (f : Frame) : (s.handle f).state.AttentionFit := by
  unfold State.handle
  split
  · split <;> exact h
  · split; exacts [h.calm .of_quiet, h]
  · split <;> exact h
  · split; exacts [h.calm .of_quiet, h]
  · split; exacts [h.calm (.doPartSet _ _ _ _), h]
  · split <;> exact h
  · split; exacts [h.doArrange _, h]
  · split; exacts [h.calm (.doPortSet _ _ _), h]
  · split; exacts [h.calm (.doPortGet _ _), h]
  · split; exacts [h.doLineStart _, h]
  · split; exacts [h.doLineStop _ _, h]
  · split; exacts [h.calm (.doLineStatus _ _), h]
  · split; exacts [h.doStationSet _ _, h]
  · split; exacts [h.calm (.doStationGet _ _), h]
  · split
    · split; exacts [h.calm (.doSlotSet _ _ _ _), h]
    · exact h
  · split; exacts [h.calm (.doSlotGet _ _ _ _), h]
  · split; exacts [h.calm (.doBankHeaderSet _ _ _), h]
  · split; exacts [h.calm (.doBankHeaderGet _ _ _), h]
  · split; exacts [h.calm (.doBankCopy _ _), h]
  · split; exacts [h.calm (.doBankSwap _ _ _), h]
  · split
    · split; exacts [h.calm (.doDescriptorSet _ _ _), h]
    · exact h
  · split; exacts [h.calm (.doDescriptorGet _ _), h]
  · split; exacts [h.calm (.doPairSet _ _ _), h]
  · split; exacts [h.calm (.doPairGet _ _), h]
  · split; exacts [h.calm (.doPairRead _ _ _ _), h]
  · split; exacts [h.calm (.handlePairWrite _ _ _ _), h]
  · split; exacts [h.calm (.doPairRelease _ _), h]
  · split; exacts [h.calm (.doPairCommit _ _), h]
  · split; exacts [h.calm (.handleDemand _ _ _ _ _ _ _ _ _), h]
  · split; exacts [h.calm (.doTake _), h]
  · split; exacts [h.calm (.doDone hs), h]
  · split; exacts [h.calm (.doStoreSave _ _ _), h]
  · split; exacts [h.calm (.doStoreErase _), h]
  · split; exacts [h.calm (.doStoreCancel _), h]
  · exact h

end State.AttentionFit

end Sys2Proof.Machine
end

section
/-!
Every step keeps the attention law (O59): the clock, the field lines, the host link, the store and the resets.
-/

namespace Sys2Proof.Machine

namespace State.AttentionFit
variable {s t : State}

/-! ### The clock and the engines' events (R51, R54, R157) -/

/-- Microseconds pass: a cycle timer counts on, and one that does not run still does not. -/
theorem advance (h : s.AttentionFit) (us : Nat) : (s.advance us).AttentionFit where
  admits := h.admits
  engine x := by
    have hengine : (s.advance us).engine x = (s.engine x).advance us := by cases x <;> rfl
    refine (h.engine x).congr ⟨by rw [hengine]; rfl, fun hs hr => ?_, fun _ => Iff.rfl, fun _ _ => ⟨rfl, rfl⟩, fun _ => Iff.rfl⟩
    rw [hengine] at hr ⊢
    obtain ⟨hactivity, htimer⟩ := hs hr
    exact ⟨hactivity, congrArg (Option.map _) htimer⟩

theorem reach (h : s.AttentionFit) (e : Engine) (us : Nat) : (s.reach e us).AttentionFit := by
  unfold State.reach
  split
  · exact h.advance _
  · exact h

theorem reach_activity (s : State) (e x : Engine) (us : Nat) : ((s.reach e us).engine x).activity = (s.engine x).activity := by
  unfold State.reach State.advance
  split <;> (cases x <;> rfl)

theorem periodExpiry (h : s.AttentionFit) {e : Engine} (ht : execPeriodExpiry e s = .next t) : t.AttentionFit := by
  unfold execPeriodExpiry at ht
  split at ht <;> injection ht with ht <;> subst ht
  · exact (h.reach _ _).periodExpires
  · exact h

theorem slotStartTime (h : s.AttentionFit) {e : Engine} (ht : execSlotStartTime e s = .next t) : t.AttentionFit := by
  unfold execSlotStartTime at ht
  dsimp only at ht
  split at ht
  · split at ht <;> injection ht with ht <;> subst ht
    · rename_i hw
      exact (h.reach _ _).slotStarts ((reach_activity s e e _).trans hw.1)
    · exact h
  · injection ht with ht; exact ht ▸ h

/-! ### Events of the field lines (chapter 1) -/

theorem requestFrameSent (h : s.AttentionFit) {p : PortId} (ht : execRequestFrameSent p s = .next t) : t.AttentionFit := by
  unfold execRequestFrameSent at ht
  split at ht <;> injection ht with ht <;> subst ht
  · exact h.calm (.withPort _ _ _)
  all_goals exact h

/-- An attempt ends with a last character at the port (R5). -/
theorem endWithChar (h : s.AttentionFit) (p : PortId) (a : Attempt) (r : Report) (g : Port → Port) :
    ((s.withPort p g).endAttempt p a r).AttentionFit := (h.calm (.withPort _ _ _)).endAttempt _ _ _

theorem fieldChar (h : s.AttentionFit) (p : PortId) (v : Byte) (parity stop : Level) : (s.fieldChar p v parity stop).AttentionFit := by
  unfold State.fieldChar
  dsimp only
  split
  · split
    · exact h.calm (.withPort _ _ _)
    · exact h.endWithChar _ _ _ _
  · exact h

theorem replyFrameComplete (h : s.AttentionFit) {p : PortId} {rest : List Byte} (ht : execReplyFrameComplete p rest s = .next t) :
    t.AttentionFit := by
  unfold execReplyFrameComplete at ht
  split at ht
  · split at ht <;> injection ht with ht <;> subst ht
    · exact h.endWithChar _ _ _ _
    · exact h
  · split at ht <;> injection ht with ht <;> subst ht
    · exact h.endWithChar _ _ _ _
    · exact h
  all_goals injection ht with ht; exact ht ▸ h

theorem replyTimeout (h : s.AttentionFit) {p : PortId} (ht : execReplyTimeout p s = .next t) : t.AttentionFit := by
  unfold execReplyTimeout at ht
  split at ht
  · split at ht <;> injection ht with ht <;> subst ht
    · exact h.calm (.withPort _ _ _)
    · exact h.endAttempt _ _ _
  all_goals injection ht with ht; exact ht ▸ h

theorem replyGapExpiry (h : s.AttentionFit) {p : PortId} (ht : execReplyGapExpiry p s = .next t) : t.AttentionFit := by
  unfold execReplyGapExpiry at ht
  split at ht
  · split at ht <;> injection ht with ht <;> subst ht
    · exact h
    · exact h.endAttempt _ _ _
  · split at ht <;> injection ht with ht <;> subst ht
    · exact h
    · exact h.endAttempt _ _ _
  all_goals injection ht with ht; exact ht ▸ h

theorem discardLimitReached (h : s.AttentionFit) {last : LastCharacter} (ht : execDiscardLimitReached last s = .next t) :
    t.AttentionFit := by
  unfold execDiscardLimitReached at ht
  split at ht
  · split at ht <;> injection ht with ht <;> subst ht
    · exact h.endWithChar _ _ _ _
    · exact h
  all_goals injection ht with ht; exact ht ▸ h

theorem abortedCharacterEnd (h : s.AttentionFit) {p : PortId} (ht : execAbortedCharacterEnd p s = .next t) : t.AttentionFit := by
  unfold execAbortedCharacterEnd at ht
  split at ht <;> injection ht with ht <;> subst ht
  · exact h.calm (.withPort _ _ _)
  all_goals exact h

theorem turnaroundGapExpiry (h : s.AttentionFit) {p : PortId} (ht : execTurnaroundGapExpiry p s = .next t) : t.AttentionFit := by
  unfold execTurnaroundGapExpiry at ht
  split at ht <;> injection ht with ht <;> subst ht
  · exact (h.calm (.withPort _ _ _)).portReady _
  all_goals exact h

theorem lineLow (h : s.AttentionFit) {p : PortId} (ht : execLineLow p s = .next t) : t.AttentionFit := by
  unfold execLineLow at ht
  split at ht <;> injection ht with ht <;> subst ht
  · exact h.calm (.withPort _ _ _)
  · exact h

theorem lineHigh (h : s.AttentionFit) {p : PortId} (ht : execLineHigh p s = .next t) : t.AttentionFit := by
  unfold execLineHigh at ht
  split at ht <;> injection ht with ht <;> subst ht
  · exact h.calm (.withPort _ _ _)
  · exact h

theorem lineMonitorTimerExpiry (h : s.AttentionFit) {p : PortId} (ht : execLineMonitorTimerExpiry p s = .next t) :
    t.AttentionFit := by
  have called : ∀ (u : State) (e : Engine), Calm u (u.lineCall e p) := fun u e => by
    unfold State.lineCall; exact .ite (.raise _ _) .withEngine
  unfold execLineMonitorTimerExpiry at ht
  split at ht <;> injection ht with ht <;> subst ht
  · exact (h.calm (.withPort _ _ _)).calm (called _ _)
  · exact h

end State.AttentionFit

/-! ### Events of the store (R163, R165) -/

namespace Calm
variable {s t : State}

theorem storeWpAsserted {pins : BoardPins} (ht : execStoreWpAsserted pins s = .next t) : Calm s t := by
  unfold execStoreWpAsserted at ht
  have pinned : Calm s { s with storeWp := pins.storeWp, lr1 := pins.lr1, lr0 := pins.lr0 } := of_quiet
  dsimp only at ht
  split at ht <;> injection ht with ht <;> subst ht
  · exact pinned.trans (cancelStore _ _)
  · exact pinned

theorem blockEraseComplete {erased : Bool} (ht : execBlockEraseComplete erased s = .next t) : Calm s t := by
  unfold execBlockEraseComplete at ht
  split at ht
  · rename_i op block _
    have setErased : Calm s { s with region := s.region.setErased block } := ofStore s _ s.store s.imageState
    dsimp only at ht
    split at ht
    · split at ht <;> injection ht with ht <;> subst ht
      · refine setErased.trans ?_
        unfold State.eraseDone State.beginPage
        split
        · exact ofStore _ _ _ _
        · exact endStore _ _ _ _
      · exact setErased.trans (ofStore _ _ _ _)
    · injection ht with ht
      exact ht ▸ endStore _ _ _ _
  all_goals injection ht with ht; exact ht ▸ refl s

theorem eraseTimeout (ht : execEraseTimeout s = .next t) : Calm s t := by
  unfold execEraseTimeout at ht
  split at ht <;> injection ht with ht <;> subst ht
  · exact endStore _ _ _ _
  all_goals exact refl s

theorem programFails (s : State) : Calm s s.programFails := by
  have torn : ∀ page, Calm s { s with region := s.region.beginProgram page } := fun page => ofStore s _ s.store s.imageState
  unfold State.programFails State.beginPage State.beginMark
  split
  · exact ite ((torn _).trans (endStore _ _ _ _)) (ofStore _ _ _ _)
  · exact ite ((torn _).trans (endStore _ _ _ _)) (ofStore _ _ _ _)
  · exact refl s
  · exact refl s

theorem programVerifies (s : State) : Calm s s.programVerifies := by
  have programmed : ∀ page bytes, Calm s { s with region := s.region.programmed page bytes } := fun page bytes =>
    ofStore s _ s.store s.imageState
  unfold State.programVerifies State.beginPage State.beginMark
  split
  · exact (programmed _ _).trans (ite (ofStore _ _ _ _) (ofStore _ _ _ _))
  · exact (programmed _ _).trans (endStore _ _ _ _)
  · exact refl s
  · exact refl s

theorem programEnds (s : State) : Calm s s.programEnds := by
  unfold State.programEnds
  split
  · exact ofStore _ _ _ _
  · exact ofStore _ _ _ _
  · exact refl s
  · exact refl s

theorem pageProgramComplete {how : ProgramEnd} (ht : execPageProgramComplete how s = .next t) : Calm s t := by
  cases how <;> injection ht with ht <;> subst ht
  · exact programVerifies s
  · exact programFails s
  · exact programEnds s

theorem programTimeout (ht : execProgramTimeout s = .next t) : Calm s t := by
  unfold execProgramTimeout at ht
  split at ht <;> injection ht with ht <;> subst ht
  · exact refl s
  · exact programFails s

end Calm

/-! ### Reset and start-up (R159, R169, R170) -/

namespace State.AttentionFit

/-- The image's stations are fresh, and both engines are at rest. -/
theorem applyImage (s : State) (x : StartSource) (m : Image) :
    (({ s.resetBlocks with imageState := .valid, startSource := x } : State).applyImage m).AttentionFit :=
  State.attentionFit_of_idle (fun i => s.attn_resetBlocks i ▸ Station.admits_clear _) (fun e => by cases e <;> exact ⟨rfl, rfl⟩)
    (by simp [State.station, State.applyImage, Station.fresh])
    (by simp [State.claim, State.applyImage, State.resetBlocks, State.reset])

/-- Engine A is started first, and leaves Engine B at rest (R170). -/
theorem autostart {s : State} (h : s.AttentionFit) (hidle : ∀ e, (s.engine e).activity = .none) (m : Image) :
    (s.autostart m).AttentionFit := by
  have first : (if m.starts .a then s.startEngine .a else s).Worked .a .none := by
    split
    · exact hidle .b ▸ h.startEngine (hidle .a)
    · exact ⟨h, hidle .b⟩
  unfold State.autostart
  dsimp only
  split
  · exact (first.fit.startEngine first.other).fit
  · exact first.fit

theorem fullReset (s : State) (cause : ResetCause) : (s.fullReset cause).AttentionFit := by
  unfold State.fullReset
  obtain ⟨m, hc⟩ | ⟨x, -, hc⟩ := s.region.check_source
  · rw [State.startUp_of_image (s := s.resetBlocks) hc rfl]
    exact ((applyImage s _ m).autostart (fun e => by cases e <;> rfl) m).calm (.raise _ _)
  · rw [State.startUp_of_none (s := s.resetBlocks) hc]
    have started : Calm s.resetBlocks { s.resetBlocks with imageState := .invalid, startSource := x } := .of_quiet
    exact s.attentionFit_resetBlocks.calm (started.trans (.raise _ _))

/-! ### Events of the host link (R147 to R151) -/

variable {s t : State}

theorem dispatch (h : s.AttentionFit) (hs : s.StackHeld) (f : Frame) : (s.dispatch f).AttentionFit := by
  have reserved : Calm s (s.reserveTx f) := .of_quiet
  have handled := (h.calm reserved).handle hs f
  refine State.AttentionFit.calm handled (Calm.trans (t := { ((s.reserveTx f).handle f).state with
    processing := some f, replySlot := some (f.answer ((s.reserveTx f).handle f).reply), tx := s.tx }) .of_quiet (.transmit _))

theorem acceptFrame (h : s.AttentionFit) (hs : s.StackHeld) (f : Frame) : (s.acceptFrame f).AttentionFit := by
  unfold State.acceptFrame
  split
  · exact h.dispatch hs f
  · exact h.calm .of_quiet
  · exact h

theorem setRx (h : s.AttentionFit) (x : LinkRx) : ({ s with rx := x } : State).AttentionFit := h.calm .of_quiet

theorem receiveFrame (h : s.AttentionFit) (hs : s.StackHeld) (f : Frame) : (s.receiveFrame f).AttentionFit := by
  unfold State.receiveFrame
  split
  · exact acceptFrame (s := { s with rx := .hunting }) (h.setRx _) hs f
  · exact h.setRx _

theorem frameComplete (h : s.AttentionFit) (hs : s.StackHeld) (bytes : List Byte) : (s.frameComplete bytes).AttentionFit := by
  unfold State.frameComplete
  split
  · exact h.acceptFrame hs _
  · exact h

theorem hostByte (h : s.AttentionFit) (hs : s.StackHeld) (b : Byte) (stop : Level) (returned : Bool) :
    (s.hostByte b stop returned).AttentionFit := by
  unfold State.hostByte
  split
  · exact h.setRx _
  · rename_i rx _ _
    exact frameComplete (s := { s with rx := rx }) (h.setRx _) hs _

theorem requestFrameComplete (h : s.AttentionFit) (hs : s.StackHeld) {rest : List Byte}
    (ht : execRequestFrameComplete rest s = .next t) : t.AttentionFit := by
  unfold execRequestFrameComplete at ht
  split at ht <;> injection ht with ht <;> subst ht
  · exact frameComplete (s := { s with rx := .hunting }) (h.setRx _) hs _
  · exact h

theorem hostGapTimerExpiry (h : s.AttentionFit) (ht : execHostGapTimerExpiry s = .next t) : t.AttentionFit := by
  unfold execHostGapTimerExpiry at ht
  split at ht <;> injection ht with ht <;> subst ht
  · exact h.setRx _
  · exact h
  · exact h

theorem noticeSent (h : s.AttentionFit) (ht : execNoticeSent s = .next t) : t.AttentionFit := by
  have chosen : Calm s { s with tx := none } := .of_quiet
  unfold execNoticeSent at ht
  split at ht <;> injection ht with ht <;> subst ht
  · exact h.calm (chosen.trans (.transmit _))
  · exact h
  · exact h

theorem replyEnds (h : s.AttentionFit) (hs : s.StackHeld) : s.replyEnds.AttentionFit := by
  have emptied : ∀ x, ({ s with processing := none, tx := none, held := x } : State).AttentionFit := fun x => h.calm .of_quiet
  unfold State.replyEnds
  dsimp only
  split
  · exact fullReset _ _
  split
  · exact (emptied none).dispatch hs _
  · exact (emptied s.held).calm (.transmit _)

theorem replySent (h : s.AttentionFit) (hs : s.StackHeld) (ht : execReplySent s = .next t) : t.AttentionFit := by
  unfold execReplySent at ht
  split at ht <;> injection ht with ht <;> subst ht
  · exact h.replyEnds hs
  · exact h
  · exact h

/-! ### Every command, and every step -/

theorem exec (h : s.AttentionFit) (hs : s.StackHeld) {i : Instr} (ht : exec i s = .next t) : t.AttentionFit := by
  have request : ∀ {f}, requestFrame i = some f → t.AttentionFit := fun hf => by
    rw [exec_of_requestFrame hf] at ht
    injection ht with ht
    exact ht ▸ h.receiveFrame hs _
  cases i with
  | requestFrameComplete rest => exact h.requestFrameComplete hs ht
  | hostGapTimerExpiry => exact h.hostGapTimerExpiry ht
  | replySent => exact h.replySent hs ht
  | noticeSent => exact h.noticeSent ht
  | powerOn l1 l0 => injection ht with ht; exact ht ▸ fullReset _ _
  | resetPin l1 l0 => injection ht with ht; exact ht ▸ fullReset _ _
  | hostByteReceived v x => injection ht with ht; exact ht ▸ h.hostByte hs v x.stop x.returned
  | storeWpAsserted pins => exact h.calm (.storeWpAsserted ht)
  | blockEraseComplete erased => exact h.calm (.blockEraseComplete ht)
  | eraseTimeout => exact h.calm (.eraseTimeout ht)
  | pageProgramComplete how => exact h.calm (.pageProgramComplete ht)
  | programTimeout => exact h.calm (.programTimeout ht)
  | periodExpiry e => exact h.periodExpiry ht
  | slotStartTime e => exact h.slotStartTime ht
  | requestFrameSent p => exact h.requestFrameSent ht
  | replyTimeout p => exact h.replyTimeout ht
  | replyFrameComplete p rest => exact h.replyFrameComplete ht
  | replyGapExpiry p => exact h.replyGapExpiry ht
  | discardLimitReached last => exact h.discardLimitReached ht
  | abortedCharacterEnd p => exact h.abortedCharacterEnd ht
  | turnaroundGapExpiry p => exact h.turnaroundGapExpiry ht
  | lineLow p => exact h.lineLow ht
  | lineHigh p => exact h.lineHigh ht
  | lineMonitorTimerExpiry p => exact h.lineMonitorTimerExpiry ht
  | fieldCharacterReceived p v x => injection ht with ht; exact ht ▸ h.fieldChar p v x.parity x.stop
  | _ => exact request rfl

/-- A step runs the front command on the rest of the queue, or lets a microsecond pass. -/
theorem step (h : s.AttentionFit) (hs : s.StackHeld) (ht : step s = .next t) : t.AttentionFit := by
  unfold Machine.step at ht
  split at ht
  · injection ht with ht; exact ht ▸ h.advance 1
  · rename_i rest _
    exact exec (s := { s with pending := rest }) (h.calm .of_quiet) hs ht

end State.AttentionFit

/-- Settles O59: every operation is calm, or changes the flight of one engine with the marks and the claim that name it. -/
theorem everyStepKeepsTheAttentionLaw : Obligations.EveryStepKeepsTheAttentionLaw := by
  intro s t hservice hattention ht
  rw [State.attentionSound_iff] at hattention ⊢
  exact hattention.step hservice.stackHeld ht

end Sys2Proof.Machine
end

section
/-!
The bank requests and LINE-STATUS (O18 to O21): what each request writes into the shadow bank, and what the readers answer.
-/

namespace Sys2Proof.Machine

/-! ### Requests that are answered at once -/

/-- An accepted request that changes one engine's record (R149, R150). -/
theorem exec_of_withEngine {i : Instr} {f : Frame} {s : State} {e : Engine} {g : EngineState → EngineState} {items : List Byte}
    (hi : requestFrame i = some f) (hp : s.processing = none) (hl : f.payload.length ≤ 250)
    (hh : (s.inDispatch f).handle f = ((s.inDispatch f).withEngine e g).ok items) :
    exec i s = .next ((s.withEngine e g).replied f ⟨.ok, items⟩) := by
  rw [exec_of_handled hi hp hl hh]
  refine congrArg Host.Outcome.next ?_
  exact State.placeReply_of_quiet s f _ (fun u => u.withEngine e g) (by cases e <;> rfl) (State.withEngine_tx _ _ _)

/-- An accepted request that only reads. -/
theorem exec_of_read {i : Instr} {f : Frame} {s : State} {items : List Byte} (hi : requestFrame i = some f)
    (hp : s.processing = none) (hl : f.payload.length ≤ 250)
    (hh : (s.inDispatch f).handle f = (s.inDispatch f).ok items) : exec i s = .next (s.replied f ⟨.ok, items⟩) := by
  rw [exec_of_handled hi hp hl hh]
  exact congrArg Host.Outcome.next (State.inDispatch_placeReply s f _)

theorem boolByte_eq (b : Bool) : boolByte b = if b then 1 else 0 := by cases b <;> rfl

/-! ### The shadow bank (R36, R38) -/

/-- The shadow bank is the bank that is not active. -/
theorem State.withShadow_eq (s : State) (e : Engine) (f : Bank → Bank) : s.withShadow e f = s.withEngine e fun en =>
    match en.active with
    | .x => { en with bankY := f en.bankY }
    | .y => { en with bankX := f en.bankX } := by
  unfold State.withShadow
  refine congrArg (s.withEngine e) (funext fun en => ?_)
  obtain ⟨bankX, bankY, active⟩ := en
  cases active <;> rfl

/-- The active bank written into the shadow bank. -/
theorem State.withShadow_activeBank (s : State) (e : Engine) : (s.withShadow e fun _ => (s.engine e).activeBank) =
    s.withEngine e fun en => match en.active with
      | .x => { en with bankY := en.bankX }
      | .y => { en with bankX := en.bankY } := by
  have own : ∀ en : EngineState, en.setBank en.active.other en.activeBank = match en.active with
      | .x => { en with bankY := en.bankX }
      | .y => { en with bankX := en.bankY } := fun en => by
    obtain ⟨bankX, bankY, active⟩ := en
    cases active <;> rfl
  cases e
  · exact congrArg (fun x => { s with engineA := x }) (own s.engineA)
  · exact congrArg (fun x => { s with engineB := x }) (own s.engineB)

/-! ### SLOT-SET (R39) -/

theorem divisorOk_iff (b : Byte) : divisorOk b = true ↔ b.toNat ∈ [1, 2, 4, 8, 16, 32, 64, 128] := by
  simp [divisorOk, ← BitVec.toNat_inj]

/-- A byte that is 0 or above 3 is no code of a request kind or a stop mode. -/
theorem ne_one_two_three {b : Byte} (h : b = 0 ∨ 3 < b.toNat) : b ≠ 1 ∧ b ≠ 2 ∧ b ≠ 3 := by
  refine ⟨?_, ?_, ?_⟩ <;> (rintro rfl; revert h; decide)

theorem pollKindOf_eq_none {b : Byte} (h : b = 0 ∨ 3 < b.toNat) : pollKindOf b = none := by
  obtain ⟨h1, h2, h3⟩ := ne_one_two_three h
  rw [pollKindOf, if_neg h1, if_neg h2, if_neg h3]

/-- The code of STATUS is 3. -/
theorem pollKindOf_status {b : Byte} (h : pollKindOf b = some .status) : b = 3 := by
  unfold pollKindOf at h
  (repeat' split at h) <;> first | assumption | cases h

/-- The FIXED fields of a record with a value outside its range are none (R37, R39). -/
theorem FixedFields.ofBytes_eq_none {station request count pair wordOffset flipAfter : Byte} (point : Word)
    (h : 63 < station.toNat ∨ request = 0 ∨ 3 < request.toNat ∨ count = 0 ∨ 16 < count.toNat ∨ 15 < pair.toNat ∨
      127 < wordOffset.toNat ∨ 1 < flipAfter.toNat ∨ (request ≠ 3 ∧ 128 < wordOffset.toNat + count.toNat)) :
    FixedFields.ofBytes station request point count pair wordOffset flipAfter = none := by
  unfold FixedFields.ofBytes
  split
  · rename_i st k p w fl hst hk hp hw hfl
    refine if_neg fun ⟨hlow, hhigh, hfits⟩ => ?_
    rcases h with h | h | h | h | h | h | h | h | ⟨hread, hlong⟩
    · rw [finOf_eq_none h] at hst; cases hst
    · rw [pollKindOf_eq_none (.inl h)] at hk; cases hk
    · rw [pollKindOf_eq_none (.inr h)] at hk; cases hk
    · subst h; exact absurd hlow (by decide)
    · omega
    · rw [finOf_eq_none h] at hp; cases hp
    · rw [finOf_eq_none h] at hw; cases hw
    · rw [boolOf_eq_none h] at hfl; cases hfl
    · have hoffset : wordOffset.toNat = w.val := by
        rw [byteOf_of_finOf hw, toNat_byteOf]
        omega
      rcases hfits with rfl | hfits
      · exact hread (pollKindOf_status hk)
      · omega
  · rfl

/-- A slot record with a value outside its range is none; an ATTENTION slot has the four common fields alone (R37). -/
theorem Slot.ofBytes_eq_none {kind divisor phase station request count pair wordOffset flipAfter : Byte} (offset point : Word)
    (x y z : Byte)
    (h : 1 < kind.toNat ∨ divisor.toNat ∉ [1, 2, 4, 8, 16, 32, 64, 128] ∨ divisor.toNat ≤ phase.toNat ∨
      (kind = 1 ∧ (63 < station.toNat ∨ request = 0 ∨ 3 < request.toNat ∨ count = 0 ∨ 16 < count.toNat ∨ 15 < pair.toNat ∨
        127 < wordOffset.toNat ∨ 1 < flipAfter.toNat ∨ (request ≠ 3 ∧ 128 < wordOffset.toNat + count.toNat)))) :
    Slot.ofBytes ([kind] ++ wordBytes offset ++ [divisor, phase, station, request] ++ wordBytes point ++
      [count, pair, wordOffset, flipAfter, x, y, z]) = none := by
  simp only [Slot.ofBytes, wordBytes, List.cons_append, List.nil_append, wordOf_wordBytes, divisorOk_iff]
  rcases h with h | h | h | ⟨rfl, h⟩
  · rw [if_neg (two_le_ne h).1, if_neg (two_le_ne h).2, ite_self]
  · exact if_neg fun hc => h hc.1
  · exact if_neg fun hc => absurd hc.2 (Nat.not_lt.mpr h)
  · rw [FixedFields.ofBytes_eq_none point h]
    exact ite_self _

/-- A slot record in range is the slot of its fields; bytes 5 to 12 of an ATTENTION slot are not read (R171). -/
theorem Slot.ofBytes_attention {divisor phase : Byte} (hd : divisor.toNat ∈ [1, 2, 4, 8, 16, 32, 64, 128])
    (hp : phase.toNat < divisor.toNat) (offset point : Word) (station request count pair wordOffset flipAfter x y z : Byte) :
    Slot.ofBytes ([0] ++ wordBytes offset ++ [divisor, phase, station, request] ++ wordBytes point ++
      [count, pair, wordOffset, flipAfter, x, y, z]) = some ⟨offset, divisor, phase, none⟩ := by
  simp only [Slot.ofBytes, wordBytes, List.cons_append, List.nil_append, wordOf_wordBytes, divisorOk_iff, if_true]
  exact if_pos ⟨hd, hp⟩

theorem Slot.ofBytes_fixed {divisor phase : Byte} (hd : divisor.toNat ∈ [1, 2, 4, 8, 16, 32, 64, 128])
    (hp : phase.toNat < divisor.toNat) (offset : Word) {x : FixedFields} (hx : x.InRange) (a b c : Byte) :
    Slot.ofBytes ([1] ++ wordBytes offset ++ [divisor, phase, byteOf x.station.val, x.request.code] ++ wordBytes x.point ++
      [x.count, byteOf x.pair.val, byteOf x.wordOffset.val, boolByte x.flipAfter, a, b, c]) =
      some ⟨offset, divisor, phase, some x⟩ := by
  have hfields : FixedFields.ofBytes (byteOf x.station.val) x.request.code x.point x.count (byteOf x.pair.val)
      (byteOf x.wordOffset.val) (boolByte x.flipAfter) = some x := by
    simp only [FixedFields.ofBytes, finOf_byteOf x.station (by omega), pollKindOf_code, finOf_byteOf x.pair (by omega),
      finOf_byteOf x.wordOffset (by omega), boolOf_boolByte]
    exact if_pos hx
  simp only [Slot.ofBytes, wordBytes, List.cons_append, List.nil_append, wordOf_wordBytes, divisorOk_iff, hfields, if_true]
  exact (if_pos ⟨hd, hp⟩).trans (if_neg (by decide))

/-- SLOT-SET on an engine and a slot is answered by the record (R39). -/
theorem State.doSlotSet_eq (s : State) (e : Engine) (n : Fin 128) {record : List Byte} {sl : Slot}
    (h : Slot.ofBytes record = some sl) : s.doSlotSet (sideCode e) (byteOf n.val) record =
      (s.withShadow e fun b => { b with slots := b.slots.set n sl }).ok [] := by
  rw [State.doSlotSet, sideOf_code, finOf_byteOf n (by omega), h]

theorem State.doSlotSet_refuse (s : State) {engine slot : Byte} {record : List Byte}
    (h : 1 < engine.toNat ∨ 127 < slot.toNat ∨ Slot.ofBytes record = none) :
    s.doSlotSet engine slot record = s.refuse .badValue := by
  unfold State.doSlotSet
  rcases h with h | h | h
  · rw [sideOf_eq_none h]
  · rw [finOf_eq_none h]
    cases sideOf engine <;> rfl
  · rw [h]
    cases sideOf engine <;> cases finOf 128 slot <;> rfl

/-- Settles O18: the record is read back from its bytes, or is none when a value is out of its range. -/
theorem slotSetWritesTheShadowBank : Obligations.SlotSetWritesTheShadowBank := by
  intro s tag engine slot kind offset divisor phase station request point count pair wordOffset flipAfter f hproc c hf write
    divisors
  let record : List Byte := [kind] ++ wordBytes offset ++ [divisor, phase, station, request] ++ wordBytes point ++
    [count, pair, wordOffset, flipAfter, 0, 0, 0]
  obtain rfl : (⟨0x0F, tag, engine :: slot :: record⟩ : Frame) = f := Option.some.inj hf
  have handled : ∀ u : State, u.handle ⟨0x0F, tag, engine :: slot :: record⟩ = u.doSlotSet engine slot record := fun _ => rfl
  refine ⟨fun hbad => exec_of_refused hf hproc (Nat.le_of_ble_eq_true rfl) ?_, ?_⟩
  · rw [handled]
    refine State.doSlotSet_refuse _ ?_
    exact hbad.imp_right fun h => h.imp_right fun h => Slot.ofBytes_eq_none offset point 0 0 0 h
  · rintro e n rfl rfl hdivisor hphase
    have written : ∀ {sl : Slot}, Slot.ofBytes record = some sl →
        exec c s = .next ((write e n sl).replied _ ⟨.ok, []⟩) := fun h =>
      exec_of_withEngine hf hproc (Nat.le_of_ble_eq_true rfl)
        ((handled _).trans ((State.doSlotSet_eq _ e n h).trans (congrArg (State.ok · []) (State.withShadow_eq _ e _))))
    refine ⟨?_, ?_⟩
    · rintro rfl
      exact written (Slot.ofBytes_attention hdivisor hphase ..)
    · rintro st k p w fl rfl rfl rfl hcount h16 rfl rfl rfl hfits
      have hlow : 1 ≤ count.toNat := Nat.pos_of_ne_zero fun h => hcount (BitVec.eq_of_toNat_eq h)
      have hrecord := Slot.ofBytes_fixed hdivisor hphase offset (x := ⟨st, k, point, count, p, w, fl⟩) ⟨hlow, h16, hfits⟩ 0 0 0
      refine written (hrecord ▸ ?_)
      cases fl <;> rfl

/-! ### The other bank requests (R40 to R43) -/

/-- Settles O19: the record's bytes are those of the bank of that name. -/
theorem bankRequestsReadEitherBank : Obligations.BankRequestsReadEitherBank := by
  intro s tag engine bank slot hproc
  refine ⟨fun hbad => ?_, fun hbad => ?_, ?_⟩
  · refine exec_of_refused rfl hproc (Nat.le_of_ble_eq_true rfl) ?_
    change State.doBankHeaderGet _ engine bank = _
    unfold State.doBankHeaderGet
    rcases hbad with h | h
    · rw [sideOf_eq_none h]
    · rw [bankOf_eq_none h]
      cases sideOf engine <;> rfl
  · refine exec_of_refused rfl hproc (Nat.le_of_ble_eq_true rfl) ?_
    change State.doSlotGet _ engine bank slot = _
    unfold State.doSlotGet
    rcases hbad with h | h | h
    · rw [sideOf_eq_none h]
    · rw [bankOf_eq_none h]
      cases sideOf engine <;> rfl
    · rw [finOf_eq_none h]
      cases sideOf engine <;> cases bankOf bank <;> rfl
  rintro e b rfl rfl en k active
  have hbank : ∀ f, ((s.inDispatch f).engine e).bank b = k := fun f => by
    rw [State.inDispatch_engine]
    cases b <;> rfl
  have hactive : ∀ f, boolByte (decide (((s.inDispatch f).engine e).active = b)) = active := fun f => by
    rw [State.inDispatch_engine, boolByte_eq]
    exact ite_congr decide_eq_true_eq (fun _ => rfl) fun _ => rfl
  refine ⟨?_, ?_⟩
  · refine exec_of_read rfl hproc (Nat.le_of_ble_eq_true rfl) ?_
    change State.doBankHeaderGet _ (sideCode e) b.code = _
    rw [State.doBankHeaderGet, sideOf_code, bankOf_code]
    dsimp only
    rw [hbank, hactive, State.inDispatch_engine]
    rw [boolByte_eq]
    rfl
  · rintro n rfl
    refine exec_of_read rfl hproc (Nat.le_of_ble_eq_true rfl) ?_
    change State.doSlotGet _ (sideCode e) b.code (byteOf n.val) = _
    rw [State.doSlotGet, sideOf_code, bankOf_code, finOf_byteOf n (by omega)]
    dsimp only
    rw [hbank, hactive]
    refine congrArg _ ?_
    change active :: Slot.toBytes k.slots[n] = _
    generalize k.slots[n] = sl
    obtain ⟨o, d, p, fixed⟩ := sl
    cases fixed with
    | none => rfl
    | some x =>
      obtain ⟨st, kd, pt, ct, pr, w, fl⟩ := x
      cases fl <;> rfl

/-- Settles O20: the three writes of an engine's shadow bank and swap flag. -/
theorem shadowBankAndSwapAreWritten : Obligations.ShadowBankAndSwapAreWritten := by
  intro s tag engine slotCount action period slack hproc fh
  let header : List Byte := wordBytes period ++ [slotCount] ++ wordBytes slack
  have handled : ∀ u : State, u.handle fh = u.doBankHeaderSet engine header := fun _ => rfl
  refine ⟨fun hbad => ?_, fun hbad => ?_, fun hbad => ?_, ?_⟩
  · refine exec_of_refused (f := fh) rfl hproc (Nat.le_of_ble_eq_true rfl) ((handled _).trans ?_)
    unfold State.doBankHeaderSet
    have hnone : (1 < engine.toNat) ∨ BankHeader.ofBytes header = none := hbad.imp_right fun h => by
      simp only [header, BankHeader.ofBytes, wordBytes, List.cons_append, List.nil_append, wordOf_wordBytes]
      rcases h with h | h
      · split
        · exact if_neg (Nat.not_le.mpr h)
        · rfl
      · rw [finOf_eq_none h]
    rcases hnone with h | h
    · rw [sideOf_eq_none h]
    · rw [h]
      cases sideOf engine <;> rfl
  · refine exec_of_refused rfl hproc (Nat.le_of_ble_eq_true rfl) ?_
    change State.doBankCopy _ engine = _
    rw [State.doBankCopy, sideOf_eq_none hbad]
  · refine exec_of_refused rfl hproc (Nat.le_of_ble_eq_true rfl) ?_
    change State.doBankSwap _ engine action = _
    unfold State.doBankSwap
    rcases hbad with h | h
    · rw [sideOf_eq_none h]
    · rw [boolOf_eq_none h]
      cases sideOf engine <;> rfl
  rintro e rfl
  refine ⟨?_, ?_, fun haction => ?_⟩
  · rintro n rfl hperiod
    refine exec_of_withEngine (f := fh) rfl hproc (Nat.le_of_ble_eq_true rfl) ((handled _).trans ?_)
    have hheader : BankHeader.ofBytes header = some ⟨period, n, slack⟩ := BankHeader.ofBytes_toBytes ⟨period, n, slack⟩ hperiod
    rw [State.doBankHeaderSet, sideOf_code, hheader]
    exact congrArg (State.ok · []) (State.withShadow_eq _ e _)
  · refine exec_of_withEngine rfl hproc (Nat.le_of_ble_eq_true rfl) ?_
    change State.doBankCopy _ (sideCode e) = _
    rw [State.doBankCopy, sideOf_code]
    exact congrArg (State.ok · []) (State.withShadow_activeBank _ e)
  · refine exec_of_withEngine rfl hproc (Nat.le_of_ble_eq_true rfl) ?_
    change State.doBankSwap _ (sideCode e) action = _
    rcases haction with rfl | rfl <;> (rw [State.doBankSwap, sideOf_code]; rfl)

/-! ### LINE-STATUS (R62) -/

/-- Settles O21: the items one by one. -/
theorem lineStatusReadsTheEngine : Obligations.LineStatusReadsTheEngine := by
  intro s tag engine hproc
  refine ⟨fun hbad => ?_, ?_⟩
  · refine exec_of_refused rfl hproc (Nat.le_of_ble_eq_true rfl) ?_
    change State.doLineStatus _ engine = _
    rw [State.doLineStatus, sideOf_eq_none hbad]
  rintro e rfl en m bit
  refine exec_of_read rfl hproc (Nat.le_of_ble_eq_true rfl) ?_
  change State.doLineStatus _ (sideCode e) = _
  rw [State.doLineStatus, sideOf_code]
  dsimp only
  rw [State.inDispatch_engine]
  refine congrArg _ ?_
  change en.statusItems = _
  have hbit : boolByte = bit := funext boolByte_eq
  simp only [EngineState.statusItems, Summary.toBytes, Tallies.toBytes, hbit, List.append_assoc, List.cons_append, List.nil_append, m]
  have hrun : ∀ (r : RunState) (rest : List Byte), r.code :: r.modeCode :: rest = (match r with
      | .stopped => [0, 0]
      | .running => [1, 0]
      | .stopping k => [2, k.code]) ++ rest := fun r rest => by cases r <;> rfl
  have hsubject : en.activity.subject = match en.activity with
      | .inTransaction t => [byteOf t.subject.val, t.source.code]
      | _ => [0xFF, 0] := by cases en.activity <;> rfl
  rw [hsubject]
  exact hrun en.run _

end Sys2Proof.Machine
end

section
/-!
The start of a FIXED slot (O41): it is refused, probed or issued, and what an issue does.
-/

namespace Sys2Proof.Machine

/-! ### Issue (R65) -/

theorem scopeOf_eq_engineFor (arr : Arrangement) (c : StationConfig) : scopeOf arr c = engineFor arr c.home := by cases arr <;> rfl

theorem State.inScope_iff (s : State) (e : Engine) (i : Fin 64) :
    s.inScope e i = true ↔ engineFor s.arrangement (s.station i).config.home = e := by
  rw [State.inScope, decide_eq_true_iff, scopeOf_eq_engineFor]

/-- The changes of an issue beside a transfer's claim: the subject's mark, the engine's activity with the mark that its slot has
started, and the port that is handed the first attempt (R65, R8). -/
def State.placed (s : State) (e : Engine) (t : Transaction) (line : Line) : State :=
  ((s.withStation t.subject fun y => { y with inTransaction := some e }).withEngine e fun en =>
      { en with started := true, activity := .inTransaction { t with lastLine := some line } }).withPort line fun p =>
    if p.phase = .idle then
      { p with
        phase := .sending (some ⟨e, t.request, t.expected⟩), waiting := none, monitor := .suspended, interval := none
        shifter := some ⟨⟨p.settings.rate, p.settings.parity, p.settings.stopBits⟩, t.request.wire, 0⟩ }
    else { p with waiting := some ⟨e, t.request, t.expected⟩ }

/-- An issue claims a transfer's descriptor and hands the first attempt to the port of R69. -/
theorem State.issue_eq (s : State) (e : Engine) (t : Transaction) :
    s.issue e t = (s.claimFor e t.source).placed e t (s.firstLine e t.subject) := by
  have hclaim : (s.withStation t.subject fun st => { st with inTransaction := some e }).claimFor e t.source =
      (s.claimFor e t.source).withStation t.subject fun st => { st with inTransaction := some e } := by
    unfold State.claimFor
    cases t.source <;> rfl
  have hline : ((s.claimFor e t.source).withStation t.subject fun st => { st with inTransaction := some e }).firstLine e t.subject =
      s.firstLine e t.subject := by
    unfold State.firstLine
    rw [State.withStation_station]
    cases t.source <;> rfl
  unfold State.issue State.handAttempt State.placed
  dsimp only
  rw [hclaim, hline, State.withEngine_withEngine]
  exact congrArg (State.withPort _ _) (funext fun p => Port.take_eq _ p)

theorem State.firstLine_congr {s u : State} (ha : u.arrangement = s.arrangement) {i : Fin 64} (hi : u.station i = s.station i)
    (e : Engine) : u.firstLine e i = s.firstLine e i := by
  rw [State.firstLine, State.firstLine, ha, hi]

theorem State.withEngine_withStation (s : State) (e : Engine) (g : EngineState → EngineState) (i : Fin 64) (f : Station → Station) :
    (s.withEngine e g).withStation i f = (s.withStation i f).withEngine e g := by cases e <;> rfl

/-! ### FIXED slots (R56 to R58) -/

theorem State.refusesSlot_iff (s : State) (e : Engine) (x : FixedFields) : s.refusesSlot e x = true ↔
    (s.station x.station).config.enabled = false ∨ engineFor s.arrangement (s.station x.station).config.home ≠ e ∨
      x.request = .read ∧ (s.pair x.pair).direction ≠ .capture ∨ x.request = .write ∧ (s.pair x.pair).direction ≠ .output := by
  have hscope : s.inScope e x.station = false ↔ engineFor s.arrangement (s.station x.station).config.home ≠ e := by
    rw [← Bool.not_eq_true, State.inScope_iff]
  simp only [State.refusesSlot, Bool.or_eq_true, Bool.not_eq_true', hscope, decide_eq_true_eq, or_assoc]

/-- The words of a half, read one by one from the send half (R124). -/
theorem State.sendWords_eq (s : State) (p : Fin 16) (start n : Nat) :
    let send : Vector Word 128 := match (s.pair p).working with
      | .zero => (s.pair p).half0
      | .one => (s.pair p).half1
    s.sendWords p start n = (List.range n).map fun k => (send[start + k]?).getD 0 := by
  intro send
  have hsend : (s.pair p).half (s.pair p).working = send := rfl
  rw [State.sendWords, hsend]
  rfl

/-- A transaction issued by an engine that has just counted its slot as executed. -/
theorem State.issue_tally (s : State) (e : Engine) (f : Tallies → Tallies) (t : Transaction) (hc : ∀ d, t.source ≠ .transfer d) :
    (s.tally e f).issue e t = (s.placed e t (s.firstLine e t.subject)).withEngine e fun en => { en with tallies := f en.tallies } := by
  have hclaim : ∀ u : State, u.claimFor e t.source = u := fun u => by
    unfold State.claimFor
    cases h : t.source with
    | transfer d => exact absurd h (hc d)
    | _ => rfl
  have hline : (s.tally e f).firstLine e t.subject = s.firstLine e t.subject :=
    State.firstLine_congr (State.withEngine_arrangement _ _ _) (State.withEngine_station _ _ _ _) e
  rw [State.issue_eq, hclaim, hline]
  unfold State.placed State.tally
  rw [State.withEngine_withStation, State.withEngine_withEngine]
  cases e <;> cases s.firstLine _ t.subject <;> rfl

/-- Settles O41: a slot that is not refused issues its probe or its own request. -/
theorem fixedSlotIssuesItsTransaction : Obligations.FixedSlotIssuesItsTransaction := by
  intro s e n sl x hfixed st pair refused send words tr line attempt
  have hline : s.firstLine e x.station = line := rfl
  have hwords : s.sendWords x.pair x.wordOffset.val x.count.toNat = words := s.sendWords_eq x.pair _ _
  have hprobe : st.health = .offline → s.buildProbe n x = tr := fun h => (if_pos h).symm
  have hown : st.health ≠ .offline → s.buildFixed n x = tr := fun h => by
    refine Eq.trans ?_ (if_neg h).symm
    unfold State.buildFixed State.fixedWords
    rw [hwords]
    cases hk : x.request <;> rfl
  refine ⟨fun h => ?_, fun h => ?_⟩
  · rw [State.startSlot, hfixed]
    exact if_pos ((s.refusesSlot_iff e x).mpr h)
  have started : s.startSlot e n sl = ((s.tally e .bumpExecuted).issue e tr, true) := by
    rw [State.startSlot, hfixed]
    refine (if_neg fun hr => h ((s.refusesSlot_iff e x).mp hr)).trans ?_
    by_cases hoff : st.health = .offline
    · exact (if_pos hoff).trans (by rw [hprobe hoff])
    · exact (if_neg hoff).trans (by rw [hown hoff])
  have hsubject : tr.subject = x.station := by
    simp only [tr]
    split <;> rfl
  have hsource : ∀ d, tr.source ≠ .transfer d := fun d => by
    simp only [tr]
    split <;> exact Source.noConfusion
  rw [started, State.issue_tally s e _ tr hsource, hsubject, hline]
  refine congrArg (·, true) ?_
  unfold State.placed
  rw [hsubject]
  cases e <;> cases line <;> rfl

end Sys2Proof.Machine
end

section
/-!
Grants (O42): the choices over the stations, one turn of the order of R94, and what each of its steps gives.
-/

namespace Sys2Proof.Machine

/-! ### Choices over the stations -/

/-- The lowest index that satisfies `p` is the one below which none does. -/
theorem lowest_eq_some {p : Fin 64 → Bool} {i : Fin 64} (hi : p i = true) (hlow : ∀ j, p j = true → i ≤ j) : lowest p = some i := by
  refine List.find?_eq_some_iff_getElem.mpr ⟨hi, i.val, by simp, by simp, fun j hj => ?_⟩
  rw [Bool.not_eq_true', ← Bool.not_eq_true, List.getElem_finRange]
  exact fun h => absurd (hlow _ h) (Nat.not_le.mpr hj)

theorem lowest_eq_none {p : Fin 64 → Bool} (h : ∀ j, p j ≠ true) : lowest p = none :=
  List.find?_eq_none.mpr fun j _ => h j

/-- The order in which a station is chosen before another: the higher level, and of equal levels the lower index. -/
def Beats (lvl : Fin 64 → Nat) (i j : Fin 64) : Prop := lvl j < lvl i ∨ lvl j = lvl i ∧ i ≤ j

theorem Beats.trans {lvl : Fin 64 → Nat} {i j k : Fin 64} (h : Beats lvl i j) (g : Beats lvl j k) : Beats lvl i k := by
  unfold Beats at *
  omega

theorem Beats.antisymm {lvl : Fin 64 → Nat} {i j : Fin 64} (h : Beats lvl i j) (g : Beats lvl j i) : i = j := by
  unfold Beats at *
  omega

/-- The better of the best so far and a station of a higher index. -/
theorem better_spec {lvl : Fin 64 → Nat} {best : Option (Fin 64)} {i : Fin 64} (h : ∀ b, best = some b → b < i) :
    ∃ j, better lvl best i = some j ∧ Beats lvl j i ∧ ∀ b, best = some b → Beats lvl j b := by
  cases best with
  | none => exact ⟨i, rfl, .inr ⟨rfl, Fin.le_refl i⟩, nofun⟩
  | some b =>
    have hb := h b rfl
    unfold better Beats
    dsimp only
    split
    · exact ⟨i, rfl, by omega, by rintro _ ⟨⟩; omega⟩
    · exact ⟨b, rfl, by omega, by rintro _ ⟨⟩; omega⟩

/-- The station kept of a rising run of stations, and of one before them, beats every one of them that satisfies `p`. -/
theorem foldl_better_spec {p : Fin 64 → Bool} {lvl : Fin 64 → Nat} (xs : List (Fin 64)) (hxs : xs.Pairwise (· < ·))
    (best : Option (Fin 64)) (hbest : ∀ b, best = some b → ∀ x ∈ xs, b < x) (k : Fin 64)
    (hk : best = some k ∨ k ∈ xs ∧ p k = true) :
    ∃ j, xs.foldl (fun best i => if p i then better lvl best i else best) best = some j ∧ Beats lvl j k := by
  induction xs generalizing best k with
  | nil => exact ⟨k, hk.resolve_right (by simp), .inr ⟨rfl, Fin.le_refl k⟩⟩
  | cons x xs ih =>
    obtain ⟨hx, hrest⟩ := List.pairwise_cons.mp hxs
    rw [List.foldl_cons]
    by_cases hpx : p x = true
    · obtain ⟨j, hj, hjx, hjbest⟩ := better_spec (lvl := lvl) (best := best) fun b hb => hbest b hb x List.mem_cons_self
      rw [if_pos hpx, hj]
      have hjlow : ∀ b, some j = some b → ∀ y ∈ xs, b < y := by
        rintro _ ⟨⟩ y hy
        rcases better_cases lvl best x with h | h <;> rw [hj] at h
        · injection h with h; exact h ▸ hx y hy
        · exact hbest j h.symm y (List.mem_cons_of_mem _ hy)
      rcases hk with hk | ⟨hk, hpk⟩
      · obtain ⟨m, hm, hmj⟩ := ih hrest (some j) hjlow j (.inl rfl)
        exact ⟨m, hm, hmj.trans (hjbest k hk)⟩
      · rcases List.mem_cons.mp hk with rfl | hk
        · obtain ⟨m, hm, hmj⟩ := ih hrest (some j) hjlow j (.inl rfl)
          exact ⟨m, hm, hmj.trans hjx⟩
        · exact ih hrest (some j) hjlow k (.inr ⟨hk, hpk⟩)
    · rw [if_neg hpx]
      refine ih hrest best (fun b hb y hy => hbest b hb y (List.mem_cons_of_mem _ hy)) k (hk.imp_right fun ⟨hk, hpk⟩ => ?_)
      exact ⟨(List.mem_cons.mp hk).resolve_left fun h => hpx (h ▸ hpk), hpk⟩

/-- The station of highest level and lowest index among those that satisfy `p`. -/
theorem highest_eq_some {p : Fin 64 → Bool} {lvl : Fin 64 → Nat} {i : Fin 64} (hi : p i = true)
    (hbest : ∀ j, p j = true → Beats lvl i j) : highest p lvl = some i := by
  obtain ⟨j, hj, hji⟩ := foldl_better_spec (p := p) (lvl := lvl) (List.finRange 64) (List.pairwise_lt_finRange 64) none nofun i
    (.inr ⟨List.mem_finRange i, hi⟩)
  have hhighest : highest p lvl = some j := hj
  rw [hhighest, hji.antisymm (hbest j (highest_spec hhighest))]

theorem highest_eq_none {p : Fin 64 → Bool} (lvl : Fin 64 → Nat) (h : ∀ j, p j ≠ true) : highest p lvl = none := by
  cases hb : highest p lvl with
  | none => rfl
  | some j => exact absurd (highest_spec hb) (h j)

/-! ### The conditions of the steps (R93, R94, R99) -/

section
variable (s : State) (e : Engine) (passed : List (Fin 64)) (i : Fin 64)

theorem State.candidate_iff : s.candidate e passed i = true ↔ (s.station i).config.enabled = true ∧
    engineFor s.arrangement (s.station i).config.home = e ∧ (s.station i).health ≠ .offline ∧
    (s.station i).inTransaction = none ∧ i ∉ passed := by
  simp only [State.candidate, Bool.and_eq_true, State.inScope_iff, decide_eq_true_eq, and_assoc]

theorem State.hasWork_iff : s.hasWork e passed i = true ↔ s.candidate e passed i = true ∧
    (s.station i).config.mode = .descriptor ∧ ((s.attn i).state = .pending ∨ (s.attn i).state = .serving) ∧
    s.claim (s.station i).config.descriptor = none := by
  simp only [State.hasWork, Bool.and_eq_true, decide_eq_true_eq, and_assoc]

theorem State.sweepFit_iff : s.sweepFit e passed i = true ↔ s.candidate e passed i = true ∧
    (s.station i).config.sweepMember = true ∧ (s.attn i).state = .clear ∧ i ∉ (s.engine e).visited := by
  simp only [State.sweepFit, Bool.and_eq_true, decide_eq_true_eq, and_assoc]
  exact and_left_comm

end

/-- The search of R99 stops at the first station from the cursor on that is fit for a visit. -/
theorem State.sweepSearch_eq_some {s : State} {e : Engine} {passed : List (Fin 64)} {k : Nat} (hk : k < 64)
    (hfit : s.sweepFit e passed ((s.engine e).cursor + Fin.ofNat 64 k) = true)
    (hfirst : ∀ j < k, ¬ s.sweepFit e passed ((s.engine e).cursor + Fin.ofNat 64 j) = true) :
    s.sweepSearch e passed = some ((s.engine e).cursor + Fin.ofNat 64 k) := by
  refine List.find?_eq_some_iff_getElem.mpr ⟨hfit, k, by simpa using hk, by simp, fun j hj => ?_⟩
  rw [Bool.not_eq_true', ← Bool.not_eq_true, List.getElem_map, List.getElem_range]
  exact hfirst j hj

/-- Steps 1 to 3 of R94 read the stations, their attention records, the claims and the part's settings alone. -/
theorem State.firstSteps_congr {s u : State} (hstations : u.stations = s.stations) (hattention : u.attention = s.attention)
    (hclaims : u.claims = s.claims) (harr : u.arrangement = s.arrangement) (hmask : u.mask = s.mask)
    (hlevel : u.demandLevel = s.demandLevel) (e : Engine) (passed : List (Fin 64)) :
    u.urgentWork e passed = s.urgentWork e passed ∧ u.owedAcknowledge e passed = s.owedAcknowledge e passed ∧
      u.importantWork e passed = s.importantWork e passed := by
  cases s
  cases u
  cases hstations
  cases hattention
  cases hclaims
  cases harr
  cases hmask
  cases hlevel
  exact ⟨rfl, rfl, rfl⟩

/-! ### One turn of the order (R93, R94) -/

/-- What follows a look at a chosen station: the order is taken again with the station passed over, or the grant is made. -/
def GrantStep.goOn (e : Engine) (passed : List (Fin 64)) (i : Fin 64) : GrantStep → State × Bool
  | .again t => t.grantOrder e (i :: passed)
  | .issued t => (t, true)

section
variable {s : State} {e : Engine} {passed : List (Fin 64)}

/-- One turn of the order: the first step that yields something. -/
theorem State.grantOrder_eq (h : passed.length ≤ 64) : s.grantOrder e passed =
    match s.urgentWork e passed with
    | some i => (s.grantDescriptor e i).goOn e passed i
    | none =>
      match s.owedAcknowledge e passed with
      | some i => (s.grantAcknowledge e i, true)
      | none =>
        match s.importantWork e passed with
        | some i => (s.grantDescriptor e i).goOn e passed i
        | none =>
          if (s.demandStep e).2 then ((s.demandStep e).1, true)
          else
            match (s.demandStep e).1.remainingWork e passed with
            | some i => ((s.demandStep e).1.grantDescriptor e i).goOn e passed i
            | none => (s.demandStep e).1.sweepStep e passed := by
  have hfuel : 65 - passed.length = (64 - passed.length) + 1 := by omega
  have looked : ∀ (i : Fin 64) (x : GrantStep), (match x with
      | .again t => State.grantFrom (64 - passed.length) e (i :: passed) t
      | .issued t => (t, true)) = x.goOn e passed i := fun i x => by
    cases x with
    | again t =>
      have hlen : 65 - (i :: passed).length = 64 - passed.length := by
        rw [List.length_cons]
        omega
      rw [GrantStep.goOn, State.grantOrder, hlen]
    | issued t => rfl
  rw [State.grantOrder, hfuel, State.grantFrom]
  cases s.urgentWork e passed with
  | some i => exact looked i _
  | none =>
    cases s.owedAcknowledge e passed with
    | some i => rfl
    | none =>
      cases s.importantWork e passed with
      | some i => exact looked i _
      | none =>
        obtain ⟨t, b⟩ := s.demandStep e
        cases b with
        | true => rfl
        | false =>
          dsimp only
          cases t.remainingWork e passed with
          | some i => exact looked i _
          | none => rfl

theorem State.grantOrder_urgent (h : passed.length ≤ 64) {i : Fin 64} (hi : s.urgentWork e passed = some i) :
    s.grantOrder e passed = (s.grantDescriptor e i).goOn e passed i := by
  rw [State.grantOrder_eq h, hi]

theorem State.grantOrder_owed (h : passed.length ≤ 64) (hurgent : s.urgentWork e passed = none) {i : Fin 64}
    (hi : s.owedAcknowledge e passed = some i) : s.grantOrder e passed = (s.grantAcknowledge e i, true) := by
  rw [State.grantOrder_eq h, hurgent, hi]

theorem State.grantOrder_important (h : passed.length ≤ 64) (hurgent : s.urgentWork e passed = none)
    (howed : s.owedAcknowledge e passed = none) {i : Fin 64} (hi : s.importantWork e passed = some i) :
    s.grantOrder e passed = (s.grantDescriptor e i).goOn e passed i := by
  rw [State.grantOrder_eq h, hurgent, howed, hi]

/-- Behind steps 1 to 3 the order is that of a demand, of the remaining work and of the sweep. -/
theorem State.grantOrder_demand (h : passed.length ≤ 64) (hurgent : s.urgentWork e passed = none)
    (howed : s.owedAcknowledge e passed = none) (himportant : s.importantWork e passed = none) : s.grantOrder e passed =
      if (s.demandStep e).2 then ((s.demandStep e).1, true)
      else
        match (s.demandStep e).1.remainingWork e passed with
        | some i => ((s.demandStep e).1.grantDescriptor e i).goOn e passed i
        | none => (s.demandStep e).1.sweepStep e passed := by
  rw [State.grantOrder_eq h, hurgent, howed, himportant]

/-! ### A look at a chosen station (R95) -/

/-- A spent descriptor gives its end action, handed over at once when it is ESCALATE. -/
theorem State.grantDescriptor_spent {i : Fin 64} (h : (s.descriptor (s.station i).config.descriptor).remaining = 0) :
    let x := (s.descriptor (s.station i).config.descriptor).endAction
    s.grantDescriptor e i = .again (
      let u := s.setAttn i { s.attn i with state := if x = .escalate then .escalated else .acking }
      if x = .escalate ∧ s.serviceLevel < (s.attn i).level then
        u.raise (.escalation i (s.attn i).level (s.attn i).cls (s.station i).config.mode (some .endAction)
          ((List.finRange 64).countP fun j => decide (j = i ∨ (s.attn j).state = .escalated)) s.serviceLevel)
      else u) := by
  dsimp only
  unfold State.grantDescriptor State.endAction
  dsimp only
  rw [if_pos h]
  cases (s.descriptor (s.station i).config.descriptor).endAction with
  | acknowledge => rfl
  | escalate =>
    have hlevel : (s.setAttn i { s.attn i with state := .escalated }).serviceLevel = s.serviceLevel := rfl
    simp only [if_true, true_and]
    rw [State.handOver_eq, State.setAttn_attn, State.countP_escalated_setAttn s i rfl, hlevel]
    split <;> rfl

/-- A pair in the wrong direction gives nothing. -/
theorem State.grantDescriptor_wrong {i : Fin 64} (h : (s.descriptor (s.station i).config.descriptor).remaining ≠ 0)
    (hdir : (s.pair (s.descriptor (s.station i).config.descriptor).pair).direction ≠
      (s.descriptor (s.station i).config.descriptor).kind.direction) : s.grantDescriptor e i = .again s := by
  unfold State.grantDescriptor
  dsimp only
  rw [if_neg h, if_pos hdir]

/-- Otherwise the record is SERVING, the descriptor is claimed, and its transfer is issued. -/
theorem State.grantDescriptor_issued {i : Fin 64} (h : (s.descriptor (s.station i).config.descriptor).remaining ≠ 0)
    (hdir : (s.pair (s.descriptor (s.station i).config.descriptor).pair).direction =
      (s.descriptor (s.station i).config.descriptor).kind.direction) : s.grantDescriptor e i = .issued
        (((s.setAttn i { s.attn i with state := .serving }).setClaim (s.station i).config.descriptor (some e)).placed e
          (s.buildTransfer i (s.station i).config.descriptor) (s.firstLine e i)) := by
  unfold State.grantDescriptor
  dsimp only
  rw [if_neg h, if_neg fun hne => hne hdir, State.issue_eq]
  rfl

end

/-! ### Demands (R77, R79) -/

section
variable {s : State} {e : Engine} {q : Demand} {rest : List Demand}

/-- An issue behind a change of the engine alone. -/
theorem State.issue_withEngine (s : State) (e : Engine) (g : EngineState → EngineState) (t : Transaction)
    (hc : ∀ u : State, u.claimFor e t.source = u) :
    (s.withEngine e g).issue e t = (s.withEngine e g).placed e t (s.firstLine e t.subject) := by
  rw [State.issue_eq, hc, State.firstLine_congr (State.withEngine_arrangement s e g) (State.withEngine_station s e g _)]

/-- Step 4 passes when the engine is not RUNNING or has no demand. -/
theorem State.demandStep_none (h : ¬ ((s.engine e).run = .running ∧ (s.engine e).demands ≠ [])) : s.demandStep e = (s, false) := by
  unfold State.demandStep
  split
  · rename_i hr
    rw [not_not.mp fun hd => h ⟨hr, hd⟩]
    rfl
  · rfl

/-- A head whose station is enabled and in scope is issued. -/
theorem State.demandStep_issues (hr : (s.engine e).run = .running) (hq : (s.engine e).demands = q :: rest)
    (hen : (s.station q.station).config.enabled = true)
    (hscope : engineFor s.arrangement (s.station q.station).config.home = e) : s.demandStep e =
      ((s.withEngine e fun en => { en with demands := rest }).placed e (s.buildDemand q) (s.firstLine e q.station), true) := by
  have hbuild : (s.withEngine e fun en => { en with demands := rest }).buildDemand q = s.buildDemand q := by cases e <;> rfl
  rw [State.demandStep, if_pos hr, hq, State.serveDemands, hbuild]
  exact (if_pos ⟨hen, (s.inScope_iff e _).mpr hscope⟩).trans (by rw [State.issue_withEngine s e _ _ fun _ => rfl]; rfl)

/-- Any other head is discarded, and the next one is looked at. -/
theorem State.demandStep_discards (hr : (s.engine e).run = .running) (hq : (s.engine e).demands = q :: rest)
    (hunfit : (s.station q.station).config.enabled = false ∨
      engineFor s.arrangement (s.station q.station).config.home ≠ e) : s.demandStep e =
      ((s.withEngine e fun en => { en with demands := rest }).raise
        (.demandResult q.tag e q.station q.kind .discarded 0 (s.station q.station).last [])).demandStep e := by
  have hnot : ¬ ((s.station q.station).config.enabled = true ∧ s.inScope e q.station = true) := fun ⟨hen, hscope⟩ =>
    hunfit.elim (fun h => by rw [hen] at h; cases h) fun h => h ((s.inScope_iff e _).mp hscope)
  have hrest : (((s.withEngine e fun en => { en with demands := rest }).raise
      (.demandResult q.tag e q.station q.kind .discarded 0 (s.station q.station).last [])).engine e) =
      { s.engine e with demands := rest } := by
    rw [State.raise_engine, State.withEngine_engine]
  rw [State.demandStep, State.demandStep, if_pos hr, hq, State.serveDemands, hrest]
  refine (if_neg hnot).trans ?_
  rw [if_pos (show ({ s.engine e with demands := rest } : EngineState).run = .running from hr), State.demandNotice,
    State.withEngine_station]
  rfl

end

/-! ### The order as a whole -/

/-- A slot that is not FIXED asks for a grant, and is counted by what the grant gives (R59, R60). -/
theorem State.startSlot_attention (s : State) (e : Engine) (n : Fin 128) {sl : Slot} (h : sl.fixed = none) : s.startSlot e n sl =
    if (s.grant e).2 then ((s.grant e).1.tally e .bumpExecuted, true) else ((s.grant e).1.tally e .bumpIdle, false) := by
  rw [State.startSlot, h]
  dsimp only
  obtain ⟨t, b⟩ := s.grant e
  cases b <;> rfl

/-- Settles O42: each step of the order by the choice that it makes and what it gives. -/
theorem grantFollowsTheOrder : Obligations.GrantFollowsTheOrder := by
  refine ⟨fun _ _ => rfl, ?_, ?_⟩
  · intro s e n sl hsl granted counted
    rw [State.startSlot_attention s e n hsl]
    exact ⟨fun hg => if_pos hg, fun hg => if_neg (Bool.eq_false_iff.mp hg)⟩
  intro s e passed hnodup cand work eligible urgent owed important remaining lowestOf bestOf demands chosen descriptorOf fitting
    limit transfer issued
  have hlen : passed.length ≤ 64 := by simpa using hnodup.length_le_card
  have hissued : ∀ u t, issued u t = u.placed e t (s.firstLine e t.subject) := fun _ _ => rfl
  have hcand : ∀ j, s.candidate e passed j = true ↔ cand j := s.candidate_iff e passed
  have hwork : ∀ j, s.hasWork e passed j = true ↔ work j := fun j => by rw [State.hasWork_iff, hcand]
  have hurgent : ∀ j, (s.hasWork e passed j && decide ((s.attn j).level = 8)) = true ↔ urgent j := fun j => by
    rw [Bool.and_eq_true, hwork, decide_eq_true_iff]
  have howed : ∀ j, (s.candidate e passed j && decide ((s.attn j).state = .acking)) = true ↔ owed j := fun j => by
    rw [Bool.and_eq_true, hcand, decide_eq_true_iff]
  have himportant : ∀ j, (s.hasWork e passed j && s.eligible (s.attn j).level &&
      decide (s.demandLevel.val < (s.attn j).level.val)) = true ↔ important j := fun j => by
    rw [Bool.and_eq_true, Bool.and_eq_true, hwork, State.eligible, decide_eq_true_iff, decide_eq_true_iff, and_assoc]
  have hremaining : ∀ j, (s.hasWork e passed j && s.eligible (s.attn j).level &&
      decide ((s.attn j).level.val ≤ s.demandLevel.val)) = true ↔ remaining j := fun j => by
    rw [Bool.and_eq_true, Bool.and_eq_true, hwork, State.eligible, decide_eq_true_iff, decide_eq_true_iff, and_assoc]
  have nourgent : (∀ j, ¬ urgent j) → s.urgentWork e passed = none := fun h => lowest_eq_none fun j hj => h j ((hurgent j).mp hj)
  have noowed : (∀ j, ¬ owed j) → s.owedAcknowledge e passed = none := fun h => lowest_eq_none fun j hj => h j ((howed j).mp hj)
  have noimportant : (∀ j, ¬ important j) → s.importantWork e passed = none := fun h =>
    highest_eq_none _ fun j hj => h j ((himportant j).mp hj)
  have looked : ∀ i, chosen i → s.grantOrder e passed = (s.grantDescriptor e i).goOn e passed i := by
    rintro i (⟨hi, hlow⟩ | ⟨hnone, ⟨hi, hbest⟩ | ⟨hnoimportant, hnodemands, hi, hbest⟩⟩)
    · exact State.grantOrder_urgent hlen (lowest_eq_some ((hurgent i).mpr hi) fun j hj => hlow j ((hurgent j).mp hj))
    · exact State.grantOrder_important hlen (nourgent fun j => (hnone j).1) (noowed fun j => (hnone j).2)
        (highest_eq_some ((himportant i).mpr hi) fun j hj => (hbest j ((himportant j).mp hj)).imp id (.imp_left (congrArg Fin.val)))
    · have hi : s.remainingWork e passed = some i :=
        highest_eq_some ((hremaining i).mpr hi) fun j hj => (hbest j ((hremaining j).mp hj)).imp id (.imp_left (congrArg Fin.val))
      rw [State.grantOrder_demand hlen (nourgent fun j => (hnone j).1) (noowed fun j => (hnone j).2) (noimportant hnoimportant),
        State.demandStep_none hnodemands]
      dsimp only
      rw [hi]
      rfl
  have descriptorMode : ∀ i, chosen i → (s.station i).config.mode = .descriptor := by
    rintro i (⟨⟨⟨-, hmode, -⟩, -⟩, -⟩ | ⟨-, ⟨⟨⟨-, hmode, -⟩, -⟩, -⟩ | ⟨-, -, ⟨⟨-, hmode, -⟩, -⟩, -⟩⟩) <;> exact hmode
  have hfitting : ∀ i, fitting i ↔ (s.pair (descriptorOf i).pair).direction = (descriptorOf i).kind.direction := fun i => by
    simp only [fitting]
    cases (descriptorOf i).kind <;> rfl
  have htransfer : ∀ i, s.buildTransfer i (s.station i).config.descriptor = transfer i := fun i => by
    simp only [State.buildTransfer, State.build, State.sendWords_eq, transfer]
    cases (descriptorOf i).kind <;> rfl
  have demanded : (∀ j, ¬ urgent j ∧ ¬ owed j ∧ ¬ important j) → s.grantOrder e passed = _ := fun hnone =>
    State.grantOrder_demand hlen (nourgent fun j => (hnone j).1) (noowed fun j => (hnone j).2.1) (noimportant fun j => (hnone j).2.2)
  refine ⟨fun i hi hleft hfit => ?_, fun i hi hleft hfit => ?_, fun i hi hspent => ?_, fun i hnone hi => ?_,
    fun q rest hnone hrun hq hen hscope => ?_, fun q rest hnone hrun hq hunfit => ?_, fun hnone hnodemands => ?_⟩
  · rw [looked i hi, State.grantDescriptor_issued hleft ((hfitting i).mp hfit), htransfer]
    exact congrArg (·, true) (hissued _ _).symm
  · rw [looked i hi, State.grantDescriptor_wrong hleft fun h => hfit ((hfitting i).mpr h)]
    rfl
  · rw [looked i hi, State.grantDescriptor_spent hspent, descriptorMode i hi]
    rfl
  · have hi : s.owedAcknowledge e passed = some i :=
      lowest_eq_some ((howed i).mpr hi.1) fun j hj => hi.2 j ((howed j).mp hj)
    rw [State.grantOrder_owed hlen (nourgent hnone) hi, State.grantAcknowledge, State.issue_eq]
    rfl
  · rw [demanded hnone, State.demandStep_issues hrun hq hen hscope]
    refine congrArg (·, true) ((hissued _ _).trans ?_).symm
    refine congrArg (State.placed _ e · _) ?_
    rw [State.buildDemand, State.build]
    cases q.kind <;> rfl
  · obtain ⟨hurgent', howed', himportant'⟩ := State.firstSteps_congr
      (s := s) (u := (s.withEngine e fun en => { en with demands := rest }).raise
        (.demandResult q.tag e q.station q.kind .discarded 0 (s.station q.station).last []))
      (by simp) (by simp) (by simp) (by simp) (by simp) (by simp) e passed
    rw [demanded hnone, State.demandStep_discards hrun hq hunfit, State.grantOrder_demand hlen
      (hurgent'.trans (nourgent fun j => (hnone j).1)) (howed'.trans (noowed fun j => (hnone j).2.1))
      (himportant'.trans (noimportant fun j => (hnone j).2.2))]
  intro visit at_
  have hvisit : ∀ j, s.sweepFit e passed j = true ↔ visit j := fun j => by rw [State.sweepFit_iff, hcand]
  have noremaining : s.remainingWork e passed = none := highest_eq_none _ fun j hj => (hnone j).2.2.2 ((hremaining j).mp hj)
  have swept : s.grantOrder e passed = s.sweepStep e passed := by
    rw [demanded fun j => ⟨(hnone j).1, (hnone j).2.1, (hnone j).2.2.1⟩, State.demandStep_none hnodemands]
    dsimp only
    rw [noremaining]
    rfl
  rw [swept, State.sweepStep]
  refine ⟨fun hcall => if_neg (Bool.eq_false_iff.mp hcall), fun hcall hno => (if_pos hcall).trans ?_,
    fun k hk hcall hfit hfirst => (if_pos hcall).trans ?_⟩
  · have hsearch : s.sweepSearch e passed = none := by
      rw [← Option.isNone_iff_eq_none, State.sweepSearch_isNone]
      simpa [hvisit] using hno
    rw [hsearch]
    rfl
  · rw [State.sweepSearch_eq_some hk ((hvisit _).mpr hfit) fun j hj h => hfirst j hj ((hvisit _).mp h)]
    refine congrArg (·, true) ?_
    rw [State.grantSweep, State.issue_withEngine s e _ _ fun _ => rfl, hissued]
    cases e <;> rfl

end Sys2Proof.Machine
end

section
/-!
Slots in their order (O40): what a grant and a slot's start leave of the engine, and the slots one by one.
-/

namespace Sys2Proof.Machine

/-! ### What the slots' work leaves alone -/

/-- Between `s` and `t` a view of one engine is the same, and so are the other engine, the pairs and the descriptors. -/
structure SlotFrame {α : Type} (e : Engine) (view : EngineState → α) (s t : State) : Prop where
  view : view (t.engine e) = view (s.engine e)
  other : t.engine e.other = s.engine e.other
  pairs : t.pairs = s.pairs
  descriptors : t.descriptors = s.descriptors

/-- What an engine keeps while it takes slots: its banks, its run state and its cycle. -/
def EngineState.plan (en : EngineState) : EngineState :=
  { en with
    activity := .none, next := 0, started := false, tallies := .zero, demands := [], callPending := false, cursor := 0
    visited := [] }

/-- What it keeps while one slot starts: the next slot index too. -/
def EngineState.place (en : EngineState) : EngineState × Nat := (en.plan, en.next)

/-- The state that a look at a chosen station leaves. -/
def GrantStep.left : GrantStep → State
  | .again t => t
  | .issued t => t

namespace SlotFrame

section
variable {α : Type} {e : Engine} {view : EngineState → α}

theorem refl (s : State) : SlotFrame e view s s := ⟨rfl, rfl, rfl, rfl⟩

theorem trans {s t u : State} (h : SlotFrame e view s t) (k : SlotFrame e view t u) : SlotFrame e view s u where
  view := k.view.trans h.view
  other := k.other.trans h.other
  pairs := k.pairs.trans h.pairs
  descriptors := k.descriptors.trans h.descriptors

theorem map {β : Type} {s t : State} (h : SlotFrame e view s t) (f : α → β) : SlotFrame e (f ∘ view) s t where
  view := congrArg f h.view
  other := h.other
  pairs := h.pairs
  descriptors := h.descriptors

theorem withEngine {s : State} {g : EngineState → EngineState} (h : view (g (s.engine e)) = view (s.engine e)) :
    SlotFrame e view s (s.withEngine e g) where
  view := by rw [State.withEngine_engine, h]
  other := State.withEngine_engine_other s g (other_side_ne e)
  pairs := State.withEngine_pairs _ _ _
  descriptors := State.withEngine_descriptors _ _ _

theorem of_same {s t : State} (h : SameRecords s t) : SlotFrame e view s t where
  view := congrArg view (h.engine e)
  other := h.engine _
  pairs := h.pairs
  descriptors := h.descriptors

theorem setAttn (s : State) (i : Fin 64) (r : Attention) : SlotFrame e view s (s.setAttn i r) :=
  ⟨congrArg view (State.setAttn_engine _ _ _ _), State.setAttn_engine _ _ _ _, rfl, rfl⟩

end

/-! #### Grants -/

section
variable {s : State} {e : Engine}

theorem issue (t : Transaction) : SlotFrame e EngineState.place s (s.issue e t) where
  view := by
    obtain ⟨line, h⟩ := s.issue_engine e t
    rw [h]
    rfl
  other := s.issue_engine_other e t (other_side_ne e)
  pairs := by unfold State.issue State.handAttempt State.claimFor; split <;> simp
  descriptors := by unfold State.issue State.handAttempt State.claimFor; split <;> simp

theorem grantDescriptor (i : Fin 64) : SlotFrame e EngineState.place s (s.grantDescriptor e i).left := by
  unfold State.grantDescriptor
  dsimp only
  split
  · change SlotFrame e _ s (if _ then _ else _)
    split
    · exact (setAttn _ _ _).trans (of_same (.handOver _ _ _))
    · exact setAttn _ _ _
  · split
    · exact refl s
    · exact (setAttn _ _ _).trans (issue _)

theorem serveDemands (qs : List Demand) : SlotFrame e EngineState.place s (s.serveDemands e qs).1 := by
  induction qs generalizing s with
  | nil => exact refl s
  | cons q rest ih =>
    have popped : SlotFrame e EngineState.place s (s.withEngine e fun en => { en with demands := rest }) := withEngine rfl
    unfold State.serveDemands
    dsimp only
    split
    · exact popped.trans (issue _)
    · exact (popped.trans (of_same (.raise _ _))).trans ih

theorem demandStep : SlotFrame e EngineState.place s (s.demandStep e).1 := by
  unfold State.demandStep
  split
  · exact serveDemands _
  · exact refl s

theorem sweepStep (passed : List (Fin 64)) : SlotFrame e EngineState.place s (s.sweepStep e passed).1 := by
  unfold State.sweepStep
  split
  · split
    · rename_i i _
      have visited : SlotFrame e EngineState.place s
          (s.withEngine e fun en => { en with visited := en.visited ++ [i], cursor := i + 1 }) := withEngine rfl
      exact visited.trans (issue _)
    · have ended : SlotFrame e EngineState.place s (s.withEngine e fun en => { en with callPending := false, visited := [] }) :=
        withEngine rfl
      exact ended
  · exact refl s

/-- The grant order, by the fuel that bounds its returns. -/
theorem grantFrom (n : Nat) (passed : List (Fin 64)) : SlotFrame e EngineState.place s (State.grantFrom n e passed s).1 := by
  induction n generalizing passed s with
  | zero => exact refl s
  | succ n ih =>
    have looked : ∀ (u : State) (i : Fin 64), SlotFrame e EngineState.place u (match u.grantDescriptor e i with
        | .again t => State.grantFrom n e (i :: passed) t
        | .issued t => (t, true)).1 := fun u i => by
      have hlook := grantDescriptor (s := u) (e := e) i
      split <;> (rename_i heq; rw [heq] at hlook)
      · exact hlook.trans (ih _)
      · exact hlook
    unfold State.grantFrom
    split
    · exact looked s _
    split
    · exact issue _
    split
    · exact looked s _
    have hdemand := demandStep (s := s) (e := e)
    split <;> (rename_i heq; rw [heq] at hdemand)
    · exact hdemand
    · split
      · exact hdemand.trans (looked _ _)
      · exact hdemand.trans (sweepStep _)

/-- A slot that starts leaves the engine at its place (R56, R59). -/
theorem startSlot (n : Fin 128) (sl : Slot) : SlotFrame e EngineState.place s (s.startSlot e n sl).1 := by
  have tallied : ∀ (u : State) f, SlotFrame e EngineState.place u (u.tally e f) := fun _ _ => withEngine rfl
  cases h : sl.fixed with
  | none =>
    have hgrant : SlotFrame e EngineState.place s (s.grant e).1 := grantFrom _ _
    rw [State.startSlot_attention s e n h]
    split
    · exact hgrant.trans (tallied _ _)
    · exact hgrant.trans (tallied _ _)
  | some f =>
    rw [State.startSlot, h]
    dsimp only
    split
    · exact tallied _ _
    split
    · exact (tallied _ _).trans (issue _)
    · exact (tallied _ _).trans (issue _)

end

end SlotFrame

/-! ### One slot (R53 to R55) -/

/-- A free engine looks at its next slot; `onward` is what it does with the slots behind one that is settled. -/
def State.takeNext (s : State) (e : Engine) (onward : State → State) : State :=
  let en := s.engine e
  if h : en.next < 128 then
    if en.next < en.activeBank.header.slotCount.val then
      let sl := en.activeBank.slots[en.next]
      let elapsed := (en.timer.map CycleTimer.elapsed).getD 0
      if sl.selected en.cycle = false then onward ((s.tally e .bumpPassed).nextSlot e)
      else if en.timer.any (fun t => decide (t.period.toNat ≤ sl.offset.toNat)) then s.setActivity e .waiting
      else if (sl.offset.toNat + en.activeBank.header.slack.toNat) * Config.unit < elapsed then
        onward ((s.tally e .bumpSkipped).nextSlot e)
      else if elapsed < sl.offset.toNat * Config.unit then s.setActivity e .waiting
      else if (s.startSlot e ⟨en.next, h⟩ sl).2 then (s.startSlot e ⟨en.next, h⟩ sl).1
      else onward ((s.startSlot e ⟨en.next, h⟩ sl).1.nextSlot e)
    else s.setActivity e .cycleWait
  else s.setActivity e .cycleWait

theorem State.takeFrom_succ (n : Nat) (e : Engine) (s : State) :
    State.takeFrom (n + 1) e s = s.takeNext e (State.takeFrom n e) := by
  unfold State.takeFrom State.takeNext
  refine dite_congr rfl (fun h => ite_congr rfl (fun _ => ?_) fun _ => rfl) fun _ => rfl
  refine ite_congr rfl (fun _ => rfl) fun _ => ite_congr rfl (fun _ => rfl) fun _ =>
    ite_congr rfl (fun _ => rfl) fun _ => ite_congr rfl (fun _ => rfl) fun _ => ?_
  obtain ⟨t, b⟩ := s.startSlot e ⟨(s.engine e).next, h⟩ (s.engine e).activeBank.slots[(s.engine e).next]
  cases b <;> rfl

/-- The slots behind a settled one are taken from the next index on. -/
theorem State.takeNext_congr {s : State} {e : Engine} {k k' : State → State}
    (h : (s.engine e).next < 128 → ∀ u : State, (u.engine e).next = (s.engine e).next + 1 → k u = k' u) :
    s.takeNext e k = s.takeNext e k' := by
  have settled : ∀ u : State, (u.engine e).next = (s.engine e).next → ((u.nextSlot e).engine e).next = (s.engine e).next + 1 :=
    fun u hu => by rw [State.nextSlot, State.withEngine_engine, hu]
  have tallied : ∀ f, ((s.tally e f).engine e).next = (s.engine e).next := fun f => by rw [State.tally, State.withEngine_engine]
  have started : ∀ n sl, ((s.startSlot e n sl).1.engine e).next = (s.engine e).next := fun n sl =>
    congrArg Prod.snd (SlotFrame.startSlot n sl).view
  unfold State.takeNext
  refine dite_congr rfl (fun hlt => ite_congr rfl (fun _ => ?_) fun _ => rfl) fun _ => rfl
  refine ite_congr rfl (fun _ => h hlt _ (settled _ (tallied _))) fun _ => ite_congr rfl (fun _ => rfl) fun _ =>
    ite_congr rfl (fun _ => h hlt _ (settled _ (tallied _))) fun _ => ite_congr rfl (fun _ => rfl) fun _ =>
    ite_congr rfl (fun _ => rfl) fun _ => h hlt _ (settled _ (started _ _))

/-- Fuel that covers the slots from the next index on, and the look behind the last of them, is enough. -/
theorem State.takeFrom_fuel {e : Engine} {n m : Nat} {s : State} (hn : 0 < n ∧ 128 < n + (s.engine e).next)
    (hm : 0 < m ∧ 128 < m + (s.engine e).next) : State.takeFrom n e s = State.takeFrom m e s := by
  induction n generalizing m s with
  | zero => omega
  | succ n ih =>
    obtain ⟨m, rfl⟩ := Nat.exists_eq_add_one.mpr hm.1
    rw [State.takeFrom_succ, State.takeFrom_succ]
    refine State.takeNext_congr fun hlt u hu => ih ⟨?_, ?_⟩ ⟨?_, ?_⟩ <;> omega

/-- A free engine takes its next slot, and the ones behind it that are settled in the same moment. -/
theorem State.takeSlots_eq (s : State) (e : Engine) : s.takeSlots e = s.takeNext e (·.takeSlots e) := by
  rw [State.takeSlots, State.takeFrom_succ]
  exact State.takeNext_congr fun _ u hu => State.takeFrom_fuel ⟨by omega, by omega⟩ ⟨by omega, by omega⟩

/-- Behind the last slot the engine is in CYCLE-WAIT. -/
theorem State.takeSlots_behind {s : State} {e : Engine} (h : (s.engine e).activeBank.header.slotCount.val ≤ (s.engine e).next) :
    s.takeSlots e = s.setActivity e .cycleWait := by
  rw [State.takeSlots_eq, State.takeNext]
  dsimp only
  split
  · exact if_neg (Nat.not_lt.mpr h)
  · rfl

/-- A slot that starts, and the slots behind it when it ends without a transaction. -/
def State.startAndGoOn (s : State) (e : Engine) (n : Fin 128) (sl : Slot) : State :=
  if (s.startSlot e n sl).2 then (s.startSlot e n sl).1 else ((s.startSlot e n sl).1.nextSlot e).takeSlots e

/-- A slot of the timetable, by whether it is selected and where its start time falls (R53, R54). -/
theorem State.takeSlots_at {s : State} {e : Engine} {n : Fin 128} (hn : (s.engine e).next = n.val)
    (hcount : n.val < (s.engine e).activeBank.header.slotCount.val) :
    let en := s.engine e
    let sl := en.activeBank.slots[n]
    let elapsed := (en.timer.map CycleTimer.elapsed).getD 0
    s.takeSlots e =
      if sl.selected en.cycle = false then ((s.tally e .bumpPassed).nextSlot e).takeSlots e
      else if en.timer.any (fun t => decide (t.period.toNat ≤ sl.offset.toNat)) then s.setActivity e .waiting
      else if (sl.offset.toNat + en.activeBank.header.slack.toNat) * 100 < elapsed then
        ((s.tally e .bumpSkipped).nextSlot e).takeSlots e
      else if elapsed < sl.offset.toNat * 100 then s.setActivity e .waiting
      else s.startAndGoOn e n sl := by
  have hlt : (s.engine e).next < 128 := hn ▸ n.isLt
  obtain rfl : ⟨(s.engine e).next, hlt⟩ = n := Fin.ext hn
  rw [State.takeSlots_eq, State.takeNext]
  exact (dif_pos hlt).trans (if_pos hcount)

/-! ### SLOT_START_TIME (R54) -/

/-- The clock counted on to a moment of a running cycle timer (log entry 4). -/
theorem State.reach_of_timer {s : State} {e : Engine} {t : CycleTimer} (h : (s.engine e).timer = some t) (us : Nat) :
    s.reach e us = s.advance (us - t.elapsed) := by
  rw [State.reach, h]

theorem State.advance_engine (s : State) (e : Engine) (us : Nat) : (s.advance us).engine e = (s.engine e).advance us := by
  cases e <;> rfl

/-- The clock moves no engine to another slot. -/
theorem State.advance_place (s : State) (e : Engine) (us : Nat) : ((s.advance us).engine e).next = (s.engine e).next ∧
    ((s.advance us).engine e).activeBank = (s.engine e).activeBank := by
  rw [State.advance_engine]
  exact ⟨rfl, rfl⟩

/-- The slot waited for starts. -/
theorem State.slotStarts_at {s : State} {e : Engine} {n : Fin 128} (hn : (s.engine e).next = n.val) :
    s.slotStarts e = s.startAndGoOn e n (s.engine e).activeBank.slots[n] := by
  have hlt : (s.engine e).next < 128 := hn ▸ n.isLt
  obtain rfl : ⟨(s.engine e).next, hlt⟩ = n := Fin.ext hn
  rw [State.slotStarts]
  refine (dif_pos hlt).trans ?_
  unfold State.startAndGoOn
  change (match s.startSlot e ⟨(s.engine e).next, hlt⟩ (s.engine e).activeBank.slots[(s.engine e).next] with
    | (t, true) => t
    | (t, false) => (t.nextSlot e).takeSlots e) = if (s.startSlot e ⟨(s.engine e).next, hlt⟩
      (s.engine e).activeBank.slots[(s.engine e).next]).2 then _ else _
  obtain ⟨t, b⟩ := s.startSlot e ⟨(s.engine e).next, hlt⟩ (s.engine e).activeBank.slots[(s.engine e).next]
  cases b <;> rfl

theorem EngineState.nextOffset_at {en : EngineState} {n : Fin 128} (hn : en.next = n.val) :
    en.nextOffset = en.activeBank.slots[n].offset.toNat := by
  simp [EngineState.nextOffset, hn]

/-- The event with a running timer: a slot waited for inside the cycle starts, and nothing else happens. -/
theorem exec_slotStartTime {s : State} {e : Engine} {n : Fin 128} {t : CycleTimer} (hn : (s.engine e).next = n.val)
    (ht : (s.engine e).timer = some t) :
    let sl := (s.engine e).activeBank.slots[n]
    exec (.slotStartTime e) s = .next (if (s.engine e).activity = .waiting ∧ sl.offset.toNat < t.period.toNat then
      (s.advance (sl.offset.toNat * 100 - t.elapsed)).startAndGoOn e n sl else s) := by
  intro sl
  have started : (s.reach e (sl.offset.toNat * 100)).slotStarts e = (s.advance (sl.offset.toNat * 100 - t.elapsed)).startAndGoOn e n sl := by
    obtain ⟨hnext, hbank⟩ := s.advance_place e (sl.offset.toNat * 100 - t.elapsed)
    rw [State.reach_of_timer ht, State.slotStarts_at (hnext.trans hn), hbank]
  change execSlotStartTime e s = _
  unfold execSlotStartTime
  dsimp only
  rw [ht, EngineState.nextOffset_at hn, ← started]
  dsimp only
  split <;> rfl

theorem CycleTimer.elapsed_eq (timer : Option CycleTimer) : (timer.map CycleTimer.elapsed).getD 0 = match timer with
    | some t => t.elapsed
    | none => 0 := by cases timer <;> rfl

/-- Settles O40: each clause is one branch of the look at a slot. -/
theorem slotsAreTakenInOrder : Obligations.SlotsAreTakenInOrder := by
  intro s e en bank elapsed onward counted
  have hbank : en.activeBank = bank := rfl
  have helapsed : (en.timer.map CycleTimer.elapsed).getD 0 = elapsed := CycleTimer.elapsed_eq en.timer
  refine ⟨fun h => State.takeSlots_behind (hbank ▸ h), fun n hn hcount => ?_⟩
  intro sl selected start late never
  have hsel : sl.selected en.cycle = true ↔ selected := decide_eq_true_iff
  have hnever : (en.timer.any fun t => decide (t.period.toNat ≤ sl.offset.toNat)) = true ↔ never := by
    rw [Option.any_eq_true]
    simp only [decide_eq_true_eq]
    rfl
  have hlate : (sl.offset.toNat + bank.header.slack.toNat) * 100 < elapsed ↔ late := by
    rw [Nat.add_mul]
  have hat := State.takeSlots_at hn (hbank ▸ hcount)
  dsimp only at hat
  rw [helapsed] at hat
  have onwards : ∀ h : selected, s.takeSlots e = _ := fun h =>
    hat.trans (if_neg (Bool.not_eq_false _ ▸ hsel.mpr h))
  refine ⟨fun h => ?_, fun h hn => ?_, fun h hn hl => ?_, fun h hw => ?_, fun h hn hl hw => ?_, fun p hw ht hp => ?_, fun h => ?_⟩
  · exact hat.trans (if_pos (Bool.not_eq_true _ ▸ fun hs => h (hsel.mp hs)))
  · exact (onwards h).trans (if_pos (hnever.mpr hn))
  · exact (onwards h).trans ((if_neg fun hx => hn (hnever.mp hx)).trans (if_pos (hlate.mpr hl)))
  · have hnotlate : ¬ (sl.offset.toNat + bank.header.slack.toNat) * 100 < elapsed := by omega
    refine (onwards h).trans ?_
    split
    · rfl
    · exact (if_neg hnotlate).trans (if_pos hw)
  · exact (onwards h).trans ((if_neg fun hx => hn (hnever.mp hx)).trans ((if_neg fun hx => hl (hlate.mp hx)).trans
      (if_neg (Nat.not_lt.mpr hw))))
  · rw [exec_slotStartTime hn ht]
    exact congrArg Host.Outcome.next (if_pos ⟨hw, hp⟩)
  · cases ht : en.timer with
    | none =>
      change execSlotStartTime e s = _
      rw [execSlotStartTime, ht]
    | some t =>
      rw [exec_slotStartTime hn ht]
      refine congrArg Host.Outcome.next (if_neg fun ⟨hw, hp⟩ => ?_)
      rcases h with h | h | ⟨x, hx, hperiod⟩
      · exact h hw
      · rw [ht] at h
        cases h
      · rw [ht] at hx
        cases hx
        exact absurd hp (Nat.not_lt.mpr hperiod)

end Sys2Proof.Machine
end

section
/-!
Engines that start, stop and end their cycles: LINE-START (O37), LINE-STOP (O38) and PERIOD_EXPIRY (O43).
-/

namespace Sys2Proof.Machine

/-! ### What an engine keeps while it takes slots -/

namespace SlotFrame

theorem takeNext {s : State} {e : Engine} {onward : State → State} (h : ∀ u, SlotFrame e EngineState.plan u (onward u)) :
    SlotFrame e EngineState.plan s (s.takeNext e onward) := by
  have waits : ∀ a, SlotFrame e EngineState.plan s (s.setActivity e a) := fun _ => withEngine rfl
  have settled : ∀ (u : State), SlotFrame e EngineState.plan u (u.nextSlot e) := fun _ => withEngine rfl
  have tallied : ∀ f, SlotFrame e EngineState.plan s (s.tally e f) := fun _ => withEngine rfl
  have started : ∀ n sl, SlotFrame e EngineState.plan s (s.startSlot e n sl).1 := fun n sl => (startSlot n sl).map Prod.fst
  unfold State.takeNext
  dsimp only
  split
  · split
    · split
      · exact ((tallied _).trans (settled _)).trans (h _)
      split
      · exact waits _
      split
      · exact ((tallied _).trans (settled _)).trans (h _)
      split
      · exact waits _
      split
      · exact started _ _
      · exact ((started _ _).trans (settled _)).trans (h _)
    · exact waits _
  · exact waits _

/-- An engine that takes slots keeps its banks, its run state and its cycle. -/
theorem takeSlots (s : State) (e : Engine) : SlotFrame e EngineState.plan s (s.takeSlots e) := by
  have taken : ∀ (n : Nat) (u : State), SlotFrame e EngineState.plan u (State.takeFrom n e u) := fun n => by
    induction n with
    | zero => exact refl
    | succ n ih => exact fun u => State.takeFrom_succ n e u ▸ takeNext ih
  exact taken 129 s

end SlotFrame

/-! ### LINE-START (R45) -/

theorem State.placeReply_arrangement (s : State) (f : Frame) (r : Reply) (tx : Option Transmission) :
    (s.placeReply f r tx).arrangement = s.arrangement := State.transmit_arrangement _

theorem State.placeReply_time (s : State) (f : Frame) (r : Reply) (tx : Option Transmission) :
    (s.placeReply f r tx).time = s.time := State.transmit_time _

theorem State.withEngine_congr {s : State} {e : Engine} {f g : EngineState → EngineState} (h : f (s.engine e) = g (s.engine e)) :
    s.withEngine e f = s.withEngine e g := by
  cases e
  · exact congrArg (fun x => { s with engineA := x }) h
  · exact congrArg (fun x => { s with engineB := x }) h

/-- The armed swap, by the bank that is active behind it (R38). -/
theorem EngineState.swapIfArmed_eq (en : EngineState) : en.swapIfArmed =
    { en with active := if en.swapArmed then en.active.other else en.active, swapArmed := false } := by
  obtain ⟨bankX, bankY, active, swapArmed⟩ := en
  cases swapArmed <;> rfl

/-- LINE-START on an engine is answered by its two checks (R45). -/
theorem State.doLineStart_eq (s : State) (e : Engine) : s.doLineStart (sideCode e) =
    if e = .b ∧ s.arrangement = .paired then s.refuse .wrongArrangement
    else if (s.engine e).run = .stopped then (s.startEngine e).ok []
    else s.refuse .busy := by
  rw [State.doLineStart, sideOf_code]
  simp only [EngineState.isStopped_iff]

/-- Settles O37: the checks by their conditions, and the started engine by what it keeps while it takes slots. -/
theorem lineStartStartsTheEngine : Obligations.LineStartStartsTheEngine := by
  intro s tag engine hproc f
  refine ⟨fun hbad => exec_of_refused (f := f) rfl hproc (Nat.le_of_ble_eq_true rfl) ?_, ?_⟩
  · change State.doLineStart _ engine = _
    rw [State.doLineStart, sideOf_eq_none hbad]
  rintro e rfl
  have handled : (s.inDispatch f).handle f = (s.inDispatch f).doLineStart (sideCode e) := rfl
  rw [State.doLineStart_eq, State.inDispatch_arrangement, State.inDispatch_engine] at handled
  refine ⟨fun hb hpaired => ?_, fun hfits hrun => ?_, ?_⟩
  · exact exec_of_refused (f := f) rfl hproc (Nat.le_of_ble_eq_true rfl) (handled.trans (if_pos ⟨hb, hpaired⟩))
  · exact exec_of_refused (f := f) rfl hproc (Nat.le_of_ble_eq_true rfl)
      (handled.trans ((if_neg hfits).trans (if_neg hrun)))
  intro hfits hrun active bank opened
  let begun : State := (s.inDispatch f).withEngine e fun _ => opened
  have hbegun : (s.inDispatch f).startEngine e = begun.takeSlots e := by
    refine congrArg (State.takeSlots · e) (State.withEngine_congr ?_)
    rw [State.inDispatch_engine, EngineState.swapIfArmed_eq]
    rfl
  have hengine : begun.engine e = opened := State.withEngine_engine _ _ _
  replace handled := handled.trans ((if_neg hfits).trans (if_pos hrun))
  rw [hbegun] at handled
  refine ⟨fun hcount => ?_, ?_⟩
  · refine exec_of_withEngine (f := f) rfl hproc (Nat.le_of_ble_eq_true rfl) (handled.trans (congrArg (State.ok · []) ?_))
    rw [State.takeSlots_behind, State.setActivity, State.withEngine_withEngine]
    rw [hengine]
    have hzero : opened.activeBank.header.slotCount.val = 0 := congrArg Fin.val hcount
    exact hzero.le
  have frame := SlotFrame.takeSlots begun e
  have kept := EngineFrame.takeSlots begun e
  let t : State := (begun.takeSlots e).placeReply f ⟨.ok, []⟩ s.tx
  have same : SameRecords (begun.takeSlots e) t := .placeReply _ _ _ _
  have hplan : (t.engine e).plan = opened.plan := by rw [same.engine, frame.view, hengine]
  have hexec : exec (.lineStart tag (sideCode e)) s = .next t :=
    exec_of_handled (f := f) rfl hproc (Nat.le_of_ble_eq_true rfl) handled
  refine ⟨t, hexec, State.placeReply_holds s _ f _ ?_, rfl, congrArg EngineState.run hplan, congrArg EngineState.cycle hplan,
    congrArg EngineState.cycleStart hplan, congrArg EngineState.timer hplan, congrArg EngineState.active hplan,
    congrArg EngineState.swapArmed hplan, (congrArg EngineState.bankX hplan :), (congrArg EngineState.bankY hplan :),
    ?_, ?_, ?_, ?_, ?_, ?_⟩
  · rw [kept.rx]
    exact State.withEngine_rx _ _ _
  · rw [same.engine, frame.other, State.withEngine_engine_other _ _ (other_side_ne e), State.inDispatch_engine]
  · rw [same.stack, kept.stack, State.withEngine_stack, State.inDispatch_stack]
  · rw [same.pairs, frame.pairs, State.withEngine_pairs, State.inDispatch_pairs]
  · rw [same.descriptors, frame.descriptors, State.withEngine_descriptors, State.inDispatch_descriptors]
  · rw [State.placeReply_arrangement, kept.arrangement, State.withEngine_arrangement, State.inDispatch_arrangement]
  · rw [State.placeReply_time, kept.time, State.withEngine_time, State.inDispatch_time]

/-! ### LINE-STOP (R46 to R50) -/

/-- A stop of another mode than ABORT raises its LINE-STATE alone (R50). -/
theorem State.stopEngine_of_not_abort (s : State) (e : Engine) {mode : StopMode} (h : mode ≠ .abort) : s.stopEngine e mode =
    (s.withEngine e EngineState.halt).raise (.lineStopped e mode (s.engine e).cycle) := by
  rw [State.stopEngine, if_neg h, State.withEngine_engine]
  rfl

theorem EngineState.inTransaction_iff (en : EngineState) : en.inTransaction = true ↔ ∃ t, en.activity = .inTransaction t := by
  unfold EngineState.inTransaction
  cases en.activity <;> simp

theorem State.abortEngine_of_idle {s : State} {e : Engine} (h : ¬ ∃ t, (s.engine e).activity = .inTransaction t) :
    s.abortEngine e = s.stopEngine e .abort := by
  unfold State.abortEngine
  cases ha : (s.engine e).activity with
  | inTransaction t => exact absurd ⟨t, ha⟩ h
  | _ => rfl

theorem stopModeOf_eq_none {b : Byte} (h : b = 0 ∨ 3 < b.toNat) : stopModeOf b = none := by
  obtain ⟨h1, h2, h3⟩ := ne_one_two_three h
  rw [stopModeOf, if_neg h1, if_neg h2, if_neg h3]

/-- LINE-STOP with nothing to stop, or a stop pending that is as strong (R46). -/
theorem State.doLineStop_stopped {s : State} {e : Engine} (m : StopMode) (h : (s.engine e).run = .stopped) :
    s.doLineStop (sideCode e) m.code = s.refuse .notRunning := by
  rw [State.doLineStop, sideOf_code, stopModeOf_code]
  dsimp only
  rw [h]

theorem State.doLineStop_weaker {s : State} {e : Engine} {m p : StopMode} (h : (s.engine e).run = .stopping p)
    (hp : m.strength ≤ p.strength) : s.doLineStop (sideCode e) m.code = s.refuse .alreadyStopping := by
  rw [State.doLineStop, sideOf_code, stopModeOf_code]
  dsimp only
  rw [h]
  exact if_neg (Nat.not_lt.mpr hp)

/-- LINE-STOP on an engine that is not STOPPED, with a mode stronger than the pending one (R46). -/
theorem State.doLineStop_sets {s : State} {e : Engine} {m : StopMode}
    (h : (s.engine e).run = .running ∨ ∃ p, (s.engine e).run = .stopping p ∧ p.strength < m.strength) :
    s.doLineStop (sideCode e) m.code = (s.setStopping e m).ok [] := by
  rw [State.doLineStop, sideOf_code, stopModeOf_code]
  dsimp only
  obtain h | ⟨p, h, hp⟩ := h <;> rw [h]
  exact if_pos hp

/-- Settles O38: the checks by their conditions, and each mode by the stop that it makes. -/
theorem lineStopFollowsTheMode : Obligations.LineStopFollowsTheMode := by
  intro s tag engine mode hproc f
  refine ⟨fun hbad => exec_of_refused (f := f) rfl hproc (Nat.le_of_ble_eq_true rfl) ?_, ?_⟩
  · change State.doLineStop _ engine mode = _
    unfold State.doLineStop
    rcases hbad with h | h
    · rw [sideOf_eq_none h]
    · rw [stopModeOf_eq_none h]
      cases sideOf engine <;> rfl
  rintro e m rfl rfl en strength halted inFlight
  have hstrength : strength = StopMode.strength := funext fun x => by cases x <;> rfl
  let u := s.inDispatch f
  have hu : u.engine e = en := State.inDispatch_engine s f e
  have handled : u.handle f = u.doLineStop (sideCode e) m.code := rfl
  refine ⟨fun hrun => ?_, fun p hrun hp => ?_, fun hrun => ?_⟩
  · refine exec_of_refused (f := f) rfl hproc (Nat.le_of_ble_eq_true rfl) (handled.trans ?_)
    exact State.doLineStop_stopped m (hu ▸ hrun)
  · refine exec_of_refused (f := f) rfl hproc (Nat.le_of_ble_eq_true rfl) (handled.trans ?_)
    exact State.doLineStop_weaker (hu ▸ hrun) (hstrength ▸ hp)
  have accepted : u.handle f = (u.setStopping e m).ok [] := handled.trans (State.doLineStop_sets (hu ▸ hstrength ▸ hrun))
  let stopping : State := u.withEngine e fun x => { x with run := .stopping m }
  have hstopping : stopping.engine e = { en with run := .stopping m } := (State.withEngine_engine _ _ _).trans (by rw [hu])
  have hhalt : stopping.withEngine e EngineState.halt = u.withEngine e halted := State.withEngine_withEngine _ _ _ _
  have hflight : ∀ x : RunState, ({ en with run := x } : EngineState).inTransaction = true ↔ inFlight := fun x =>
    EngineState.inTransaction_iff _
  refine ⟨?_, ?_, ?_⟩
  · intro h
    refine exec_of_withEngine (f := f) rfl hproc (Nat.le_of_ble_eq_true rfl) (accepted.trans (congrArg (State.ok · []) ?_))
    rcases h with rfl | ⟨rfl, h⟩
    · rfl
    · refine if_pos ?_
      rw [hstopping]
      exact (hflight _).mpr h
  · rintro rfl h
    rw [exec_of_handled (f := f) rfl hproc (Nat.le_of_ble_eq_true rfl) accepted]
    have stopped : u.setStopping e .afterTransaction = stopping.stopEngine e .afterTransaction := if_neg fun hx => h <| by
      rw [hstopping] at hx
      exact (hflight _).mp hx
    rw [stopped, State.stopEngine_of_not_abort _ _ (by decide), hhalt, hstopping]
    rfl
  · rintro rfl h
    rw [exec_of_handled (f := f) rfl hproc (Nat.le_of_ble_eq_true rfl) accepted]
    have stopped : u.setStopping e .abort = stopping.stopEngine e .abort := State.abortEngine_of_idle (s := stopping) <| by
      rw [hstopping]
      exact h
    have hstation : ∀ i, stopping.station i = s.station i := fun i => State.withEngine_station _ _ _ i
    have hhalt : (stopping.withEngine e fun x => { x.halt with demands := [] }) =
        u.withEngine e fun x => { halted x with demands := [] } := State.withEngine_withEngine _ _ _ _
    rw [stopped, State.stopEngine_abort, hstopping, hhalt]
    simp only [hstation]
    rfl

end Sys2Proof.Machine
end

section
/-!
PERIOD_EXPIRY (O43): the slots left of the ending cycle, the next cycle, and the stop at the cycle's end.
-/

namespace Sys2Proof.Machine

/-! ### The slots left of a cycle (R52) -/

/-- Dropping below an index and taking up to another keeps the indices between them. -/
theorem filter_range_eq_drop_take (n j k : Nat) :
    (List.range n).filter (fun i => decide (j ≤ i ∧ i < k)) = ((List.range n).take k).drop j := by
  induction n with
  | zero => simp
  | succ n ih =>
    rw [List.range_succ, List.filter_append, ih, List.take_append, List.drop_append, List.length_take, List.length_range,
      List.filter_singleton]
    refine congrArg _ ?_
    by_cases hk : n < k
    · obtain ⟨m, hm⟩ : ∃ m, k - n = m + 1 := ⟨k - n - 1, by omega⟩
      rw [Nat.min_eq_right hk.le, hm, List.take_succ_cons, List.take_nil]
      by_cases hj : j ≤ n
      · simp [hj, hk]
      · obtain ⟨i, hi⟩ : ∃ i, j - n = i + 1 := ⟨j - n - 1, by omega⟩
        simp [hj, hi]
    · simp [hk, Nat.sub_eq_zero_of_le (Nat.not_lt.mp hk)]

/-- A window of a vector's entries is the entries at the indices of the window. -/
theorem toList_window {α : Type} {n : Nat} (v : Vector α n) (j k : Nat) : (v.toList.take k).drop j =
    ((List.finRange n).filter fun i => decide (j ≤ i.val ∧ i.val < k)).map fun i => v[i] := by
  have hindices : (List.finRange n).filter (fun i => decide (j ≤ i.val ∧ i.val < k)) = ((List.finRange n).take k).drop j := by
    refine (List.map_injective_iff.mpr Fin.val_injective) ?_
    rw [List.map_drop, List.map_take, List.map_coe_finRange_eq_range, ← filter_range_eq_drop_take,
      ← List.map_coe_finRange_eq_range, List.filter_map]
    rfl
  have hentries : v.toList = (List.finRange n).map fun i => v[i] := List.ext_getElem (by simp) (by simp)
  rw [hindices, hentries, List.map_drop, List.map_take]

/-- A closing cycle counts each of its slots overrun or passed. -/
theorem Tallies.close_eq (t : Tallies) (cycle : Word) (slots : List Slot) : t.close cycle slots = { t with
    overrun := t.overrun + slots.countP (·.selected cycle)
    passed := t.passed + slots.countP fun sl => !sl.selected cycle } := by
  induction slots generalizing t with
  | nil => rfl
  | cons sl slots ih =>
    have hstep : t.close cycle (sl :: slots) = (if sl.selected cycle then t.bumpOverrun else t.bumpPassed).close cycle slots := rfl
    rw [hstep, ih]
    cases h : sl.selected cycle <;>
      simp [h, Tallies.bumpOverrun, Tallies.bumpPassed, Nat.add_assoc, Nat.add_comm 1]

/-- The tallies of an ending cycle: the slots from the next index on, or behind a started one, are counted. -/
theorem EngineState.close_slotsLeft (en : EngineState) :
    let left : List (Fin 128) := (List.finRange 128).filter fun n =>
      decide ((if en.started then en.next + 1 else en.next) ≤ n.val ∧ n.val < en.activeBank.header.slotCount.val)
    let picked : Fin 128 → Bool := fun n => en.activeBank.slots[n].selected en.cycle
    en.tallies.close en.cycle en.slotsLeft = { en.tallies with
      overrun := en.tallies.overrun + left.countP picked, passed := en.tallies.passed + left.countP fun n => !picked n } := by
  intro left picked
  have hleft : en.slotsLeft = left.map fun n => en.activeBank.slots[n] := toList_window _ _ _
  rw [Tallies.close_eq, hleft, List.countP_map, List.countP_map]
  rfl

/-! ### The end of a cycle and the next one (R51, R52, R61) -/

/-- A cycle ends with its summary, and with a CYCLE-REPORT where the tallies ask for one. -/
theorem State.closeCycle_eq (s : State) (e : Engine) :
    let en := s.engine e
    let t := en.tallies.close en.cycle en.slotsLeft
    s.closeCycle e = (s.withEngine e fun x => { x with tallies := t, summary := ⟨true, x.cycle, x.active, t⟩ }).raiseAll
      (if 0 < t.skippedLate + t.overrun + t.refused then [.cycleReport e en.cycle en.active t] else []) := by
  intro en t
  have hclosed : s.withEngine e EngineState.closed =
      s.withEngine e fun x => { x with tallies := t, summary := ⟨true, x.cycle, x.active, t⟩ } := State.withEngine_congr rfl
  unfold State.closeCycle
  dsimp only
  rw [hclosed, State.withEngine_engine, Tallies.reports]
  simp only [decide_eq_true_eq]
  split <;> rfl

/-- The next cycle begins with the armed swap made, and takes slot 0 at once when the engine is free. -/
theorem State.startCycle_eq (s : State) (e : Engine) :
    let en := s.engine e
    let next := if en.swapArmed then en.active.other else en.active
    let begun : State := s.withEngine e fun x => { x with
      active := next, swapArmed := false, cycle := x.cycle + 1, cycleStart := s.time
      timer := some ⟨(en.bank next).header.period, 0⟩, next := 0, started := false, tallies := .zero }
    s.startCycle e = if en.activity = .waiting ∨ en.activity = .cycleWait then begun.takeSlots e else begun := by
  intro en next begun
  have hbegun : (s.withEngine e fun en => ({ en.swapIfArmed with cycle := en.cycle + 1 } : EngineState).openCycle s.time) = begun := by
    refine State.withEngine_congr ?_
    rw [EngineState.swapIfArmed_eq]
    rfl
  have hactivity : (begun.engine e).activity = en.activity := by rw [State.withEngine_engine]
  unfold State.startCycle
  dsimp only
  rw [hbegun, hactivity]
  cases en.activity <;> simp

/-! ### PERIOD_EXPIRY -/

/-- The timer's expiry, with the clock counted on to it (log entry 4). -/
theorem exec_periodExpiry {s : State} {e : Engine} {t : CycleTimer} (h : (s.engine e).timer = some t) :
    exec (.periodExpiry e) s = .next ((s.advance (t.period.toNat * 100 - t.elapsed)).periodExpires e) := by
  change execPeriodExpiry e s = _
  rw [execPeriodExpiry, h]
  exact congrArg (fun u : State => Host.Outcome.next (u.periodExpires e)) (State.reach_of_timer h _)

/-- Settles O43: the ending cycle's slots are counted, and the run state decides what follows. -/
theorem periodExpiryEndsTheCycle : Obligations.PeriodExpiryEndsTheCycle := by
  intro s e
  refine ⟨fun h => ?_, fun tm htm => ?_⟩
  · change execPeriodExpiry e s = _
    rw [execPeriodExpiry, h]
  intro ahead s0 en bank left picked tallies ended next begun halted
  have htallies : en.tallies.close en.cycle en.slotsLeft = tallies := en.close_slotsLeft
  have hended : s0.closeCycle e = ended := by
    rw [State.closeCycle_eq, htallies]
  have hengine : ended.engine e = { en with tallies := tallies, summary := ⟨true, en.cycle, en.active, tallies⟩ } := by
    rw [(SameRecords.raiseAll _ _).engine, State.withEngine_engine]
  have htime : ended.time = s0.time := by rw [← hended, (EngineFrame.closeCycle s0 e).time]
  have hexec : exec (.periodExpiry e) s = .next (s0.periodExpires e) := exec_periodExpiry htm
  refine ⟨fun hrun => ?_, fun hrun => ?_⟩
  · have goesOn : s0.periodExpires e = ended.startCycle e := by
      rw [State.periodExpires]
      rcases hrun with h | h <;> (rw [h, hended])
    rw [hexec, goesOn, State.startCycle_eq, hengine, htime]
    rfl
  · have stops : ended.stopEngine e .afterCycle = halted := by
      rw [State.stopEngine_of_not_abort _ _ (by decide), hengine]
      rfl
    rw [hexec, State.periodExpires, hrun]
    dsimp only
    rw [hended, hengine, stops]
    cases en.activity <;> rfl

end Sys2Proof.Machine
end

section
/-!
DEMAND (O26): the frame that carries it, its checks in order, and the entry's place in the queue (R74, R75).
-/

namespace Sys2Proof.Machine

/-! ### The parameters and their ranges -/

theorem le_one_of_sideOf {b : Byte} {x : Side} (h : sideOf b = some x) : b.toNat ≤ 1 := by
  by_contra hb
  rw [sideOf_eq_none (by omega)] at h
  cases h

theorem lt_of_finOf {n : Nat} {b : Byte} {i : Fin n} (h : finOf n b = some i) : b.toNat < n := by
  by_contra hb
  rw [finOf_eq_none (by omega)] at h
  cases h

theorem code_of_pollKindOf {b : Byte} {k : PollKind} (h : pollKindOf b = some k) : b = k.code := by
  unfold pollKindOf at h
  split_ifs at h with hread hwrite hstatus <;> cases h
  exacts [hread, hwrite, hstatus]

theorem demandWordsFit_iff (kind count : Byte) (words : List Word) : demandWordsFit kind count words = true ↔
    words.length = if kind = 2 then count.toNat else 0 := by
  unfold demandWordsFit
  split <;> exact decide_eq_true_iff

theorem demandCountFits_iff (k : PollKind) (count : Byte) : demandCountFits k count = true ↔
    (k.code = 1 ∨ k.code = 2) ∧ 1 ≤ count.toNat ∧ count.toNat ≤ 16 ∨ k.code = 3 ∧ count = 0 := by
  cases k <;> simp [demandCountFits, PollKind.code]

/-- The words of a demand whose count fits are at most 16 (R74). -/
theorem length_le_of_demandFits {k : PollKind} {count : Byte} {words : List Word}
    (hwords : demandWordsFit k.code count words = true) (hcount : demandCountFits k count = true) : words.length ≤ 16 := by
  rw [demandWordsFit_iff] at hwords
  cases k with
  | read => exact hwords.trans_le (Nat.zero_le _)
  | write =>
    obtain ⟨-, hhigh⟩ := of_decide_eq_true hcount
    exact hwords.trans_le hhigh
  | status => exact hwords.trans_le (Nat.zero_le _)

/-! ### The checks (R75) -/

section
variable {s : State} {tag engine station kind count : Byte} {point : Word} {words : List Word} {f : Frame}

/-- The owner of DEMAND is handed the words of the frame; more than 16 are a LEN that is not allowed (11.4). -/
theorem State.handle_demand (hf : requestFrame (.demand tag engine station kind point count words) = some f) :
    s.handle f =
      if words.length ≤ 16 then s.doDemand tag engine station kind point count words else s.refuse .badLength := by
  obtain rfl := Option.some.inj hf
  change s.handleDemand tag engine station kind (point.extractLsb' 8 8) (point.extractLsb' 0 8) count (wordsBytes words) = _
  rw [State.handleDemand, wordsOf_wordsBytes, wordOf_wordBytes]

theorem length_payload_demand (hf : requestFrame (.demand tag engine station kind point count words) = some f) :
    f.payload.length = 6 + 2 * words.length := by
  obtain rfl := Option.some.inj hf
  simp only [wordBytes, List.length_append, List.length_cons, List.length_nil, length_wordsBytes]

/-- Check 1. -/
theorem State.doDemand_badLength (h : ¬ demandWordsFit kind count words = true) :
    s.doDemand tag engine station kind point count words = s.refuse .badLength := by
  rw [State.doDemand, if_pos (Bool.eq_false_of_not_eq_true h)]

/-- Check 2. -/
theorem State.doDemand_badValue (hwords : demandWordsFit kind count words = true)
    (h : ¬ (engine.toNat ≤ 1 ∧ station.toNat ≤ 63 ∧
      ((kind = 1 ∨ kind = 2) ∧ 1 ≤ count.toNat ∧ count.toNat ≤ 16 ∨ kind = 3 ∧ count = 0))) :
    s.doDemand tag engine station kind point count words = s.refuse .badValue := by
  rw [State.doDemand, if_neg (by simp [hwords])]
  split
  · rename_i e i k he hi hk
    refine if_pos (Bool.eq_false_of_not_eq_true fun hcount => h ⟨le_one_of_sideOf he, Nat.le_of_lt_succ (lt_of_finOf hi), ?_⟩)
    rw [code_of_pollKindOf hk]
    exact (demandCountFits_iff k count).mp hcount
  · rfl

/-- Checks 3 to 6 on parameters in range, and the entry at the queue's tail. -/
theorem State.doDemand_eq (e : Engine) (i : Fin 64) {k : PollKind} (hwords : demandWordsFit k.code count words = true)
    (hcount : demandCountFits k count = true) : s.doDemand tag (sideCode e) (byteOf i.val) k.code point count words =
      if e = .b ∧ s.arrangement = .paired then s.refuse .wrongArrangement
      else if engineFor s.arrangement (s.station i).config.home ≠ e then s.refuse .wrongLine
      else if (s.station i).config.enabled = false then s.refuse .stationDisabled
      else if 8 ≤ (s.engine e).demands.length then s.refuse .full
      else (s.queueDemand e ⟨tag, i, k, point, count, words⟩).accepted [byteOf ((s.engine e).demands.length + 1)] := by
  rw [State.doDemand, if_neg (by simp [hwords]), sideOf_code, finOf_byteOf i (by omega), pollKindOf_code]
  dsimp only
  rw [if_neg (by simp [hcount])]
  refine ite_congr rfl (fun _ => rfl) fun _ => ite_congr ?_ (fun _ => rfl) fun _ => rfl
  rw [← Bool.not_eq_true, State.inScope_iff]

end

/-! ### DEMAND -/

section
variable {c : Instr} {s : State} {f : Frame} (hc : requestFrame c = some f) (hp : s.processing = none)
  (hl : f.payload.length ≤ 250)
include hc hp hl

/-- One check of a request: it is refused, or answered as what stands behind the check has it. -/
theorem exec_of_check {p : Prop} [Decidable p] {r : ResultCode} {h : Handled} {t : State}
    (hh : (s.inDispatch f).handle f = if p then (s.inDispatch f).refuse r else h)
    (passed : (s.inDispatch f).handle f = h → exec c s = .next t) :
    exec c s = .next (if p then s.replied f ⟨r, []⟩ else t) := by
  split
  case isTrue hfails => exact exec_of_refused hc hp hl (hh.trans (if_pos hfails))
  case isFalse hholds => exact passed (hh.trans (if_neg hholds))

/-- An accepted DEMAND changes the queue of its engine alone (R149, R150). -/
theorem exec_of_queueDemand {e : Engine} {q : Demand} {items : List Byte}
    (hh : (s.inDispatch f).handle f = ((s.inDispatch f).queueDemand e q).accepted items) :
    exec c s = .next ((s.queueDemand e q).replied f ⟨.accepted, items⟩) := by
  rw [exec_of_handled hc hp hl hh]
  refine congrArg Host.Outcome.next ?_
  exact State.placeReply_of_quiet s f _ (State.queueDemand · e q) (by cases e <;> rfl) (State.withEngine_tx _ _ _)

end

/-- Settles O26: the checks in their order, each by its condition, and the accepted request by its entry. -/
theorem demandJoinsTheQueue : Obligations.DemandJoinsTheQueue := by
  intro s tag engine station kind point count words f hproc hlen c hf fits inRange
  have hpayload : f.payload.length ≤ 250 := by rw [length_payload_demand hf]; omega
  have handled := State.handle_demand (s := s.inDispatch f) hf
  have hfits : demandWordsFit kind count words = true ↔ fits := demandWordsFit_iff kind count words
  refine ⟨fun hbad => exec_of_refused hf hproc hpayload (handled.trans ?_),
    fun hfit hshort hbad => exec_of_refused hf hproc hpayload (handled.trans ((if_pos hshort).trans ?_)), ?_⟩
  · rcases hbad with hbad | hlong
    · rw [State.doDemand_badLength (mt hfits.mp hbad), ite_self]
    · exact if_neg (Nat.not_le.mpr hlong)
  · exact State.doDemand_badValue (hfits.mpr hfit) hbad
  rintro hfit ⟨-, -, hrange⟩ e i k rfl rfl rfl
  have hwords := hfits.mpr hfit
  have hcount := (demandCountFits_iff k count).mpr hrange
  rw [if_pos (length_le_of_demandFits hwords hcount), State.doDemand_eq e i hwords hcount, State.inDispatch_arrangement,
    State.inDispatch_station, State.inDispatch_engine] at handled
  refine exec_of_check hf hproc hpayload handled fun handled => ?_
  refine exec_of_check hf hproc hpayload handled fun handled => ?_
  refine exec_of_check hf hproc hpayload handled fun handled => ?_
  refine exec_of_check hf hproc hpayload handled fun handled => ?_
  exact exec_of_queueDemand hf hproc hpayload handled

end Sys2Proof.Machine
end

section
/-!
The service stack and the attention records (O57): what keeps a record on the stack or off it with its level and class, and the
engines' work under that relation.
-/

namespace Sys2Proof.Machine

/-! ### What a record may become -/

/-- A record in CLEAR has level and class 0, and any other has class 1 or 2 (R82). -/
def Attention.Fits (r : Attention) : Prop := if r.state = .clear then r = .none else r.cls ≠ 0

theorem State.recordsSound_iff (s : State) : s.RecordsSound ↔ ∀ i, (s.attn i).Fits := Iff.rfl

theorem Attention.fits_none : Attention.none.Fits := by simp [Attention.Fits, Attention.none]

theorem Attention.fits_iff_cls {r : Attention} (h : r.state ≠ .clear) : r.Fits ↔ r.cls ≠ 0 := by rw [Attention.Fits, if_neg h]

/-- A record out of CLEAR takes another such state, with its class. -/
theorem Attention.Fits.of_cls {r r' : Attention} (h : r.Fits) (hc : r.state ≠ .clear) (hc' : r'.state ≠ .clear)
    (hcls : r'.cls = r.cls) : r'.Fits := (fits_iff_cls hc').mpr (hcls ▸ (fits_iff_cls hc).mp h)

/-- From `r` to `r'` a record stays HELD or stays out of it, and its level and class go on fitting its state. -/
structure Attention.Moves (r r' : Attention) : Prop where
  held : r'.state = .held ↔ r.state = .held
  fits : r.Fits → r'.Fits

namespace Attention.Moves

theorem refl (r : Attention) : r.Moves r := ⟨Iff.rfl, id⟩

theorem trans {r r' r'' : Attention} (h : r.Moves r') (k : r'.Moves r'') : r.Moves r'' :=
  ⟨k.held.trans h.held, k.fits ∘ h.fits⟩

/-- A record that is not HELD becomes CLEAR. -/
theorem none {r : Attention} (h : r.state ≠ .held) : r.Moves .none := ⟨iff_of_false (by decide) h, fun _ => fits_none⟩

/-- A record that is neither CLEAR nor HELD takes another such state, with its class. -/
theorem served {r r' : Attention} (hc : r.state ≠ .clear) (hh : r.state ≠ .held) (hcls : r'.cls = r.cls)
    (hc' : r'.state ≠ .clear) (hh' : r'.state ≠ .held) : r.Moves r' :=
  ⟨iff_of_false hh' hh, fun hf => hf.of_cls hc hc' hcls⟩

/-- A record that is not HELD takes a class (R88). -/
theorem ofClass {r : Attention} (h : r.state ≠ .held) (c : StationConfig) (mask : Fin 8) (cls : Fin 3) :
    r.Moves (.ofClass c mask cls) := by
  unfold Attention.ofClass
  split
  · exact none h
  · rename_i hcls
    split <;> exact ⟨iff_of_false (by simp) h, fun _ => (fits_iff_cls (by simp)).mpr hcls⟩

/-- A record takes a reply status; one that is HELD ignores it (R89). -/
theorem afterStatus (r : Attention) (c : StationConfig) (mask : Fin 8) (src : Source) (t : Status) :
    r.Moves (r.afterStatus c mask src t) := by
  unfold Attention.afterStatus
  split
  · rename_i hs; exact ofClass (by simp [hs]) _ _ _
  · rename_i hs; exact ofClass (by simp [hs]) _ _ _
  · rename_i hs
    split
    · split
      · exact refl r
      · exact ofClass (by simp [hs]) _ _ _
    · exact refl r
  · exact refl r

end Attention.Moves

/-! ### Steady operations -/

/-- An operation that leaves the service stack alone, and by which every record moves. -/
structure Steady (s t : State) : Prop where
  stack : t.stack = s.stack
  attn : ∀ i, (s.attn i).Moves (t.attn i)

/-- A steady operation keeps the law. -/
theorem State.ServiceSound.steady {s t : State} (h : s.ServiceSound) (k : Steady s t) : t.ServiceSound := by
  obtain ⟨⟨hlength, hheld, hnodup, hlevels⟩, hrecords⟩ := h
  refine ⟨⟨?_, fun i => ?_, ?_, ?_⟩, fun i => (k.attn i).fits (hrecords i)⟩
  · rwa [k.stack]
  · rw [k.stack, ← hheld i]
    exact (k.attn i).held
  · rwa [k.stack]
  · rwa [k.stack]

namespace Steady

theorem refl (s : State) : Steady s s := ⟨rfl, fun _ => .refl _⟩

theorem trans {s t u : State} (h : Steady s t) (k : Steady t u) : Steady s u :=
  ⟨k.stack.trans h.stack, fun i => (h.attn i).trans (k.attn i)⟩

theorem ite {s : State} {c : Prop} [Decidable c] {t u : State} (h : Steady s t) (k : Steady s u) :
    Steady s (if c then t else u) := by split <;> assumption

theorem foldl {α : Type} (f : State → α → State) (h : ∀ s a, Steady s (f s a)) (xs : List α) (s : State) :
    Steady s (xs.foldl f s) := by
  induction xs generalizing s with
  | nil => exact refl s
  | cons x xs ih => exact (h s x).trans (ih (f s x))

/-- An update of neither the stack nor the records. -/
theorem of_quiet {s t : State} (hs : t.stack = s.stack := by rfl) (ha : t.attention = s.attention := by rfl) : Steady s t :=
  ⟨hs, fun i => by rw [State.attn, State.attn, ha]; exact .refl _⟩

theorem of_same {s t : State} (h : SameRecords s t) : Steady s t := ⟨h.stack, fun i => by rw [h.attn]; exact .refl _⟩

/-- An operation on one station, whose record moves. -/
theorem of_station {i : Fin 64} {s t : State} (h : OnStation i s t) (hm : (s.attn i).Moves (t.attn i)) : Steady s t :=
  ⟨h.stack, fun j => by
    by_cases hj : j = i
    · subst hj; exact hm
    · rw [(h.others j hj).2]; exact .refl _⟩

theorem ok {s t : State} (h : Steady s t) (items : List Byte) : Steady s (t.ok items).state := h

theorem accepted {s t : State} (h : Steady s t) (items : List Byte) : Steady s (t.accepted items).state := h

theorem raise (s : State) (n : Notice) : Steady s (s.raise n) := of_same (.raise s n)

theorem withEngine (s : State) (e : Engine) (g : EngineState → EngineState) : Steady s (s.withEngine e g) :=
  of_quiet (by simp) (by simp)

theorem withPort (s : State) (p : PortId) (g : Port → Port) : Steady s (s.withPort p g) := of_quiet (by simp) (by simp)

theorem setPair (s : State) (p : Fin 16) (r : Pair) : Steady s (s.setPair p r) := of_quiet

theorem setClaim (s : State) (d : Fin 32) (c : Option Engine) : Steady s (s.setClaim d c) := of_quiet

theorem setAttn {s : State} {i : Fin 64} {r : Attention} (h : (s.attn i).Moves r) : Steady s (s.setAttn i r) :=
  of_station (.setAttn s r) (by rwa [State.setAttn_attn])

theorem handOver (s : State) (i : Fin 64) (o : Origin) : Steady s (s.handOver i o) := of_same (.handOver s i o)

theorem flip (s : State) (e : Engine) (p : Fin 16) (c : FlipCause) : Steady s (s.flip e p c) := by
  unfold State.flip; exact ite ((setPair _ _ _).trans (raise _ _)) (setPair _ _ _)

/-! ### Transactions -/

theorem tally (s : State) (e : Engine) (f : Tallies → Tallies) : Steady s (s.tally e f) := withEngine _ _ _

theorem endSweep (s : State) (e : Engine) : Steady s (s.endSweep e) := withEngine _ _ _

theorem handAttempt (s : State) (e : Engine) (t : Transaction) (l : Line) : Steady s (s.handAttempt e t l) :=
  (withEngine _ _ _).trans (withPort _ _ _)

theorem issue (s : State) (e : Engine) (t : Transaction) : Steady s (s.issue e t) := by
  obtain ⟨-, hattn, -⟩ := s.issue_records e t
  exact ⟨(EngineFrame.issue s e t).stack, fun i => by rw [hattn]; exact .refl _⟩

theorem deliverWords (s : State) (t : Transaction) (o : LineOutcome) : Steady s (s.deliverWords t o) := by
  unfold State.deliverWords
  (repeat' split) <;> first | exact setPair _ _ _ | exact refl _

/-- The results: the record moves reply by reply, and an OFFLINE station's is CLEAR unless HELD (R89, R92). -/
theorem stationResults (s : State) (t : Transaction) (o : LineOutcome) : Steady s (s.stationResults t o) := by
  have replies : Steady s (s.afterReplies t) := foldl _ (fun s r => of_station (.takeReply s t.source r) (by
    rw [State.takeReply_attn]; exact .afterStatus _ _ _ _ _)) _ _
  refine of_station (.stationResults s t o) ((replies.attn t.subject).trans ?_)
  rw [State.stationResults_attn]
  split
  · rename_i hoffline; exact .none hoffline.2
  · exact .refl _

/-- The end action of a spent descriptor is taken for a record that is SERVING, whose class it keeps (R112). -/
theorem completeTransfer (s : State) (e : Engine) (i : Fin 64) (d : Fin 32) : Steady s (s.completeTransfer e i d) := by
  unfold State.completeTransfer
  have advanced : Steady s (s.setDescriptor d (s.descriptor d).advance) := of_quiet
  have wrapped := advanced.trans
    (ite (c := (s.descriptor d).wraps = true) (flip _ e (s.descriptor d).pair (.descriptorWrap d)) (refl _))
  have acted : ∀ u : State,
      Steady u (if (u.attn i).state = .serving then u.endAction i (s.descriptor d).endAction else u) := fun u => by
    split
    · rename_i h
      refine setAttn (.served (by simp [h]) (by simp [h]) rfl ?_ ?_) <;> cases (s.descriptor d).endAction <;> simp
    · exact refl u
  exact ite ((wrapped.trans (acted _)).trans (ite (flip _ _ _ _) (refl _))) wrapped

theorem sourceCompletion (s : State) (e : Engine) (t : Transaction) (o : LineOutcome) :
    Steady s (s.sourceCompletion e t o) := by
  unfold State.sourceCompletion
  split
  · exact (ite (completeTransfer _ _ _ _) (refl _)).trans (setClaim _ _ _)
  · unfold State.sweepStepEnd
    exact ite (endSweep _ _) (ite (endSweep _ _) (refl _))
  · exact raise _ _
  all_goals exact refl _

theorem slotFlip (s : State) (e : Engine) (t : Transaction) : Steady s (s.slotFlip e t) := by
  unfold State.slotFlip
  (repeat' split) <;> first | exact flip _ _ _ _ | exact refl _

theorem tallyFailed (s : State) (e : Engine) (o : LineOutcome) : Steady s (s.tallyFailed e o) := by
  unfold State.tallyFailed; exact ite (withEngine _ _ _) (refl _)

theorem handOverResults (s : State) (t : Transaction) (b : AttnState) : Steady s (s.handOverResults t b) :=
  of_same (.handOverResults s t b)

theorem discardDemands (s : State) (e : Engine) : Steady s (s.discardDemands e) := by
  rw [State.discardDemands_eq]
  exact (withEngine _ _ _).trans (of_same (.raiseAll _ _))

theorem stopEngine (s : State) (e : Engine) (m : StopMode) : Steady s (s.stopEngine e m) := by
  unfold State.stopEngine
  exact ((withEngine _ _ _).trans (ite (discardDemands _ _) (refl _))).trans (raise _ _)

theorem leaveTransaction (s : State) (e : Engine) (p : PortId) : Steady s (s.leaveTransaction e p) := by
  unfold State.leaveTransaction
  refine (withEngine s e fun en => { en.leaveSlot with activity := .gap p }).trans ?_
  dsimp only
  (repeat' split) <;> first | exact stopEngine _ _ _ | exact refl _

theorem endTransaction (s : State) (e : Engine) (t : Transaction) (o : LineOutcome) (p : PortId) :
    Steady s (s.endTransaction e t o p) := by
  unfold State.endTransaction
  refine (deliverWords s t o).trans ((stationResults _ t o).trans ((sourceCompletion _ e t o).trans ?_))
  exact (slotFlip _ e t).trans ((tallyFailed _ e o).trans ((handOverResults _ t _).trans (leaveTransaction _ e p)))

theorem takeReport (s : State) (e : Engine) (p : PortId) (r : Report) : Steady s (s.takeReport e p r) := by
  unfold State.takeReport
  split
  · exact ite (endTransaction _ _ _ _ _) (handAttempt _ _ _ _)
  all_goals exact refl _

theorem endAttempt (s : State) (p : PortId) (a : Attempt) (r : Report) : Steady s (s.endAttempt p a r) :=
  (withPort _ _ _).trans (takeReport _ _ _ _)

theorem abortCompletion (s : State) (e : Engine) (t : Transaction) : Steady s (s.abortCompletion e t) := by
  unfold State.abortCompletion
  split
  · exact setClaim _ _ _
  · exact raise _ _
  all_goals exact refl _

theorem abortTransaction (s : State) (e : Engine) (t : Transaction) : Steady s (s.abortTransaction e t) := by
  unfold State.abortTransaction
  dsimp only
  refine trans ?_ (withEngine _ _ _)
  refine trans ?_ (handOverResults _ _ _)
  refine trans ?_ (abortCompletion _ _ _)
  refine trans ?_ (stationResults _ _ _)
  exact (withPort _ _ _).trans (withPort _ _ _)

theorem abortEngine (s : State) (e : Engine) : Steady s (s.abortEngine e) := by
  unfold State.abortEngine
  refine trans ?_ (stopEngine _ _ _)
  split
  · exact abortTransaction _ _ _
  all_goals exact refl _

end Steady

/-! ### Grants (R94) -/

/-- What a look at one chosen station gives is steady. -/
def GrantStep.IsSteady (s : State) : GrantStep → Prop
  | .again t => Steady s t
  | .issued t => Steady s t

namespace Steady

/-- A station with descriptor work is PENDING or SERVING; its end action and its grant keep its class (R95). -/
theorem grantDescriptor {s : State} {e : Engine} {xs : List (Fin 64)} {i : Fin 64} (hi : s.hasWork e xs i = true) :
    (s.grantDescriptor e i).IsSteady s := by
  obtain ⟨-, hstate, -⟩ := State.hasWork_spec hi
  have served : ∀ x, x ≠ .clear → x ≠ .held → Steady s (s.setAttn i { s.attn i with state := x }) := fun x hc hh =>
    setAttn (.served (by rcases hstate with h | h <;> simp [h]) (by rcases hstate with h | h <;> simp [h]) rfl hc hh)
  have ended : ∀ x, Steady s (s.endAction i x) := fun x => by cases x <;> exact served _ (by decide) (by decide)
  unfold State.grantDescriptor
  dsimp only
  split
  · exact ite ((ended _).trans (handOver _ _ _)) (ended _)
  · split
    · exact refl s
    · exact (served _ (by decide) (by decide)).trans (issue _ _ _)

theorem serveDemands (e : Engine) (qs : List Demand) (s : State) : Steady s (s.serveDemands e qs).1 := by
  induction qs generalizing s with
  | nil => exact refl s
  | cons q rest ih =>
    have popped : Steady s (s.withEngine e fun en => { en with demands := rest }) := withEngine _ _ _
    unfold State.serveDemands
    dsimp only
    split
    · exact popped.trans (issue _ _ _)
    · exact (popped.trans (raise _ _)).trans (ih _)

theorem demandStep (s : State) (e : Engine) : Steady s (s.demandStep e).1 := by
  unfold State.demandStep
  split
  · exact serveDemands _ _ _
  · exact refl s

theorem sweepStep (s : State) (e : Engine) (xs : List (Fin 64)) : Steady s (s.sweepStep e xs).1 := by
  unfold State.sweepStep
  split
  · split
    · exact (withEngine _ _ _).trans (issue _ _ _)
    · exact endSweep _ _
  · exact refl s

/-- The grant order, by the fuel that bounds its returns (R93, R94). -/
theorem grantFrom (n : Nat) (e : Engine) (xs : List (Fin 64)) (s : State) : Steady s (State.grantFrom n e xs s).1 := by
  induction n generalizing xs s with
  | zero => exact refl s
  | succ n ih =>
    unfold State.grantFrom
    split
    · rename_i hi
      have hlook := grantDescriptor (State.urgentWork_spec hi)
      split <;> (rename_i heq; rw [heq] at hlook)
      · exact trans hlook (ih _ _)
      · exact hlook
    split
    · exact issue _ _ _
    split
    · rename_i hi
      have hlook := grantDescriptor (State.importantWork_spec hi)
      split <;> (rename_i heq; rw [heq] at hlook)
      · exact trans hlook (ih _ _)
      · exact hlook
    have hdemand := demandStep s e
    split <;> (rename_i heq; rw [heq] at hdemand)
    · exact hdemand
    · refine hdemand.trans ?_
      split
      · rename_i hi
        have hlook := grantDescriptor (State.remainingWork_spec hi)
        split <;> (rename_i heq; rw [heq] at hlook)
        · exact trans hlook (ih _ _)
        · exact hlook
      · exact sweepStep _ _ _

/-! ### Slots and cycles (R51 to R59) -/

theorem startSlot (s : State) (e : Engine) (n : Fin 128) (sl : Slot) : Steady s (s.startSlot e n sl).1 := by
  unfold State.startSlot
  split
  · split
    · exact tally _ _ _
    · split <;> exact (tally _ _ _).trans (issue _ _ _)
  · have hgrant : Steady s (s.grant e).1 := grantFrom _ _ _ _
    split <;> (rename_i heq; rw [heq] at hgrant; exact hgrant.trans (tally _ _ _))

/-- A free engine takes slots, by the fuel that bounds them. -/
theorem takeFrom (n : Nat) (e : Engine) (s : State) : Steady s (State.takeFrom n e s) := by
  induction n generalizing s with
  | zero => exact refl s
  | succ n ih =>
    have settled : ∀ f, Steady s (State.takeFrom n e ((s.tally e f).nextSlot e)) := fun f =>
      ((withEngine s e _).trans (withEngine _ e _)).trans (ih _)
    unfold State.takeFrom
    dsimp only
    split
    · rename_i hlt
      have hstart := startSlot s e ⟨(s.engine e).next, hlt⟩ (s.engine e).activeBank.slots[(s.engine e).next]
      split
      · split
        · exact settled _
        split
        · exact withEngine _ _ _
        split
        · exact settled _
        split
        · exact withEngine _ _ _
        split <;> (rename_i heq; rw [heq] at hstart)
        · exact hstart
        · exact (hstart.trans (withEngine _ e _)).trans (ih _)
      · exact withEngine _ _ _
    · exact withEngine _ _ _

theorem takeSlots (s : State) (e : Engine) : Steady s (s.takeSlots e) := takeFrom _ _ _

theorem closeCycle (s : State) (e : Engine) : Steady s (s.closeCycle e) := by
  unfold State.closeCycle
  exact (withEngine s e EngineState.closed).trans (ite (raise _ _) (refl _))

theorem startCycle (s : State) (e : Engine) : Steady s (s.startCycle e) := by
  have opened : ∀ g, Steady s (s.withEngine e g) := withEngine s e
  unfold State.startCycle
  dsimp only
  split
  · exact (opened _).trans (takeSlots _ _)
  · exact (opened _).trans (takeSlots _ _)
  all_goals exact opened _

theorem startEngine (s : State) (e : Engine) : Steady s (s.startEngine e) := (withEngine _ _ _).trans (takeSlots _ _)

theorem periodExpires (s : State) (e : Engine) : Steady s (s.periodExpires e) := by
  have closed := closeCycle s e
  unfold State.periodExpires
  split
  · exact closed.trans (startCycle _ _)
  · exact closed.trans (startCycle _ _)
  · refine closed.trans ?_
    dsimp only
    split
    · exact withEngine _ _ _
    all_goals exact stopEngine _ _ _
  · exact refl s
  · exact refl s

theorem slotStarts (s : State) (e : Engine) : Steady s (s.slotStarts e) := by
  unfold State.slotStarts
  dsimp only
  split
  · rename_i hlt
    have hstart := startSlot s e ⟨(s.engine e).next, hlt⟩ (s.engine e).activeBank.slots[(s.engine e).next]
    split <;> (rename_i heq; rw [heq] at hstart)
    · exact hstart
    · exact (hstart.trans (withEngine _ e _)).trans (takeSlots _ _)
  · exact refl s

theorem portReady (s : State) (e : Engine) (p : PortId) : Steady s (s.portReady e p) := by
  unfold State.portReady; exact ite (takeSlots _ _) (refl _)

theorem setStopping (s : State) (e : Engine) (m : StopMode) : Steady s (s.setStopping e m) := by
  have stopping : Steady s (s.withEngine e fun en => { en with run := .stopping m }) := withEngine _ _ _
  unfold State.setStopping
  dsimp only
  split
  · exact stopping
  · exact ite stopping (stopping.trans (stopEngine _ _ _))
  · exact stopping.trans (abortEngine _ _)

end Steady

end Sys2Proof.Machine
end

section
/-!
The requests under the stack's law (O57): most are steady; TAKE pushes an ESCALATED record's entry and DONE pops one.
-/

namespace Sys2Proof.Machine

namespace Steady
variable {s : State}

/-- A mask set at one record, which is PENDING when it enters ESCALATED (R86). -/
theorem maskRecord (s : State) (i : Fin 64) : Steady s (s.maskRecord i) := by
  unfold State.maskRecord
  split
  · rename_i hm
    simp only [State.maskEscalates, Bool.and_eq_true, decide_eq_true_eq] at hm
    obtain ⟨⟨hpending, -⟩, -⟩ := hm
    have entered : Steady s (s.setAttn i { s.attn i with state := .escalated }) :=
      setAttn (.served (by simp [hpending]) (by simp [hpending]) rfl (by simp) (by simp))
    exact entered.trans (handOver _ _ _)
  · exact refl s

theorem doPartSet (s : State) (m d n : Byte) : Steady s (s.doPartSet m d n).state := by
  unfold State.doPartSet
  split
  · rename_i m' d' _ _
    have written : Steady s { s with mask := m', demandLevel := d', enables := .ofByte n } := of_quiet
    exact ite written (written.trans (foldl _ maskRecord _ _))
  · exact refl s

/-- A station is configured; its record, which is CLEAR or PENDING, is evaluated anew (R91). -/
theorem reconfigure {i : Fin 64} (h : (s.attn i).state = .clear ∨ (s.attn i).state = .pending) : Steady s (s.reconfigure i) := by
  have hheld : (s.attn i).state ≠ .held := by rcases h with h | h <;> simp [h]
  rw [State.reconfigure_eq]
  dsimp only
  split
  · exact setAttn (.none hheld)
  split
  · rename_i hpending
    have moved : ∀ l x, x ≠ .clear → x ≠ .held → Steady s (s.setAttn i ⟨x, l, (s.attn i).cls⟩) := fun l x hc hh =>
      setAttn (.served (by simp [hpending]) hheld rfl hc hh)
    exact ite ((moved _ _ (by decide) (by decide)).trans (handOver _ _ _)) (moved _ _ (by decide) (by decide))
  · exact refl s

theorem doStationSet (s : State) (i : Byte) (l : List Byte) : Steady s (s.doStationSet i l).state := by
  unfold State.doStationSet
  split
  · rename_i i c _ _
    split
    · exact refl s
    split
    · exact refl s
    rename_i hbusy _
    rw [State.stationBusy_iff, not_or, not_and_or, not_not, not_not] at hbusy
    have configured : Steady s (s.withStation i (Station.configured · c)) := of_quiet
    exact configured.trans (reconfigure (by simpa using hbusy.2))
  · exact refl s

/-- ARRANGE renews the stations and keeps their records (R35). -/
theorem doArrange (s : State) (x : Byte) : Steady s (s.doArrange x).state := by
  have rearranged : ∀ y, Steady s (s.rearrange y) := fun y => by
    rw [State.rearrange_eq]
    exact trans (t := s.rearranged y _) of_quiet (of_same (.raiseAll _ _))
  unfold State.doArrange
  split
  · split
    · split
      · exact refl s
      · exact rearranged _
    · exact refl s
  · exact refl s

theorem doPortSet (s : State) (p : Byte) (l : List Byte) : Steady s (s.doPortSet p l).state := by
  unfold State.doPortSet
  split
  · split
    · exact ok (withPort _ _ _) _
    · exact refl s
  · exact refl s

theorem doPortGet (s : State) (p : Byte) : Steady s (s.doPortGet p).state := by
  unfold State.doPortGet; split <;> exact refl s

theorem doLineStart (s : State) (e : Byte) : Steady s (s.doLineStart e).state := by
  unfold State.doLineStart
  split
  · split
    · exact refl s
    split
    · exact startEngine _ _
    · exact refl s
  · exact refl s

theorem doLineStop (s : State) (e m : Byte) : Steady s (s.doLineStop e m).state := by
  unfold State.doLineStop
  split
  · split
    · exact refl s
    · exact setStopping _ _ _
    · split
      · exact setStopping _ _ _
      · exact refl s
  · exact refl s

theorem doLineStatus (s : State) (e : Byte) : Steady s (s.doLineStatus e).state := by
  unfold State.doLineStatus; split <;> exact refl s

theorem doStationGet (s : State) (i : Byte) : Steady s (s.doStationGet i).state := by
  unfold State.doStationGet; split <;> exact refl s

/-! ### Timetables, descriptors, pairs and demands -/

theorem doSlotSet (s : State) (e n : Byte) (l : List Byte) : Steady s (s.doSlotSet e n l).state := by
  unfold State.doSlotSet
  split
  · exact ok (withEngine _ _ _) _
  · exact refl s

theorem doSlotGet (s : State) (e b n : Byte) : Steady s (s.doSlotGet e b n).state := by
  unfold State.doSlotGet; split <;> exact refl s

theorem doBankHeaderSet (s : State) (e : Byte) (l : List Byte) : Steady s (s.doBankHeaderSet e l).state := by
  unfold State.doBankHeaderSet
  split
  · exact ok (withEngine _ _ _) _
  · exact refl s

theorem doBankHeaderGet (s : State) (e b : Byte) : Steady s (s.doBankHeaderGet e b).state := by
  unfold State.doBankHeaderGet; split <;> exact refl s

theorem doBankCopy (s : State) (e : Byte) : Steady s (s.doBankCopy e).state := by
  unfold State.doBankCopy
  split
  · exact ok (withEngine _ _ _) _
  · exact refl s

theorem doBankSwap (s : State) (e x : Byte) : Steady s (s.doBankSwap e x).state := by
  unfold State.doBankSwap
  split
  · exact ok (withEngine _ _ _) _
  · exact refl s

theorem doDescriptorSet (s : State) (d : Byte) (l : List Byte) : Steady s (s.doDescriptorSet d l).state := by
  unfold State.doDescriptorSet
  split
  · split
    · exact refl s
    · exact of_quiet
  · exact refl s

theorem doDescriptorGet (s : State) (d : Byte) : Steady s (s.doDescriptorGet d).state := by
  unfold State.doDescriptorGet; split <;> exact refl s

theorem doPairSet (s : State) (p d : Byte) : Steady s (s.doPairSet p d).state := by
  unfold State.doPairSet
  split
  · split
    · exact setPair _ _ _
    · exact refl s
  · exact refl s

theorem doPairGet (s : State) (p : Byte) : Steady s (s.doPairGet p).state := by
  unfold State.doPairGet; split <;> exact refl s

theorem doPairRead (s : State) (p k n : Byte) : Steady s (s.doPairRead p k n).state := by
  unfold State.doPairRead
  split
  · split <;> exact refl s
  · exact refl s

theorem doPairWrite (s : State) (p k : Byte) (ws : List Word) : Steady s (s.doPairWrite p k ws).state := by
  unfold State.doPairWrite
  split
  · dsimp only
    split
    · exact refl s
    split
    · exact refl s
    split
    · exact refl s
    · exact setPair _ _ _
  · exact refl s

theorem handlePairWrite (s : State) (p k : Byte) (l : List Byte) : Steady s (s.handlePairWrite p k l).state := by
  unfold State.handlePairWrite
  split
  · split
    · exact doPairWrite _ _ _ _
    · exact refl s
  · exact refl s

theorem doPairRelease (s : State) (p : Byte) : Steady s (s.doPairRelease p).state := by
  unfold State.doPairRelease
  split
  · split
    · exact refl s
    · exact setPair _ _ _
  · exact refl s

theorem doPairCommit (s : State) (p : Byte) : Steady s (s.doPairCommit p).state := by
  unfold State.doPairCommit
  split
  · split
    · exact refl s
    · exact setPair _ _ _
  · exact refl s

theorem doDemand (s : State) (tag e i k : Byte) (pt : Word) (n : Byte) (ws : List Word) :
    Steady s (s.doDemand tag e i k pt n ws).state := by
  unfold State.doDemand
  split
  · exact refl s
  split
  · repeat (split; · exact refl s)
    exact accepted (withEngine _ _ _) _
  · exact refl s

theorem handleDemand (s : State) (tag e i k p1 p0 n : Byte) (l : List Byte) :
    Steady s (s.handleDemand tag e i k p1 p0 n l).state := by
  unfold State.handleDemand
  split
  · split
    · exact doDemand _ _ _ _ _ _ _ _
    · exact refl s
  · exact refl s

/-! ### The store -/

theorem ofStore (s : State) (r : Region) (x : Store) (im : ImageState) :
    Steady s { s with region := r, store := x, imageState := im } := of_quiet

theorem endStore (s : State) (save : Bool) (o : StoreOutcome) (im : ImageState) : Steady s (s.endStore save o im) :=
  (ofStore s s.region .idle im).trans (raise _ _)

theorem cancelStore (s : State) (byPin : Bool) : Steady s (s.cancelStore byPin) :=
  (ofStore s s.cancelledRegion s.store s.imageState).trans (endStore _ _ _ _)

theorem beginStore (s : State) (op : StoreOp) : Steady s (s.beginStore op) := by
  unfold State.beginStore State.beginErase
  exact ofStore s _ _ _

theorem doStoreSave (s : State) (a b : Byte) : Steady s (s.doStoreSave a b).state := by
  unfold State.doStoreSave
  split
  · split
    · exact refl s
    split
    · exact beginStore _ _
    · exact refl s
  · exact refl s

theorem doStoreErase (s : State) : Steady s s.doStoreErase.state := by
  unfold State.doStoreErase
  split
  · exact refl s
  split
  · exact beginStore _ _
  · exact refl s

theorem doStoreCancel (s : State) : Steady s s.doStoreCancel.state := by
  unfold State.doStoreCancel
  split
  · exact refl s
  · exact cancelStore _ _

theorem reoffer (s : State) : Steady s s.reoffer := by
  unfold State.reoffer
  split
  · exact ite (raise _ _) (refl _)
  · exact refl s

end Steady

/-! ### TAKE and DONE (R134 to R141) -/

namespace State.ServiceSound
variable {s t : State}

/-- The service level is the highest on the stack (R134). -/
theorem level_le_serviceLevel (h : s.ServiceSound) {x : StackEntry} (hx : x ∈ s.stack) : x.level ≤ s.serviceLevel := by
  obtain ⟨⟨-, -, -, hlevels⟩, -⟩ := h
  unfold State.serviceLevel
  cases hstack : s.stack with
  | nil => rw [hstack] at hx; cases hx
  | cons top rest =>
    rw [hstack] at hx hlevels
    obtain rfl | hx := List.mem_cons.mp hx
    · exact Fin.le_refl _
    · exact Fin.le_of_lt (List.rel_of_pairwise_cons hlevels (List.mem_map_of_mem hx))

/-- TAKE pushes an entry above the service level for a record that is ESCALATED (R136, R137). -/
theorem pushStation (h : s.ServiceSound) {i : Fin 64} (hroom : s.stack.length < Config.stackEntries)
    (hi : (s.attn i).state = .escalated) (habove : s.serviceLevel < (s.attn i).level) : (s.pushStation i).ServiceSound := by
  have hle := fun x => h.level_le_serviceLevel (x := x)
  obtain ⟨⟨hlength, hheld, hnodup, hlevels⟩, hrecords⟩ := h
  have hattn : (s.pushStation i).attn i = { s.attn i with state := .held } := State.setAttn_attn _ _ _
  have hothers : ∀ j, j ≠ i → (s.pushStation i).attn j = s.attn j := fun j hj => State.setAttn_attn_other s _ hj
  have hnew : i ∉ s.stack.map StackEntry.station := fun hmem => by
    have := (hheld i).mpr hmem
    rw [hi] at this
    cases this
  refine ⟨⟨hroom, fun j => ?_, List.nodup_cons.mpr ⟨hnew, hnodup⟩, List.pairwise_cons.mpr ⟨fun l hl => ?_, hlevels⟩⟩, fun j => ?_⟩
  · show _ ↔ j ∈ i :: s.stack.map StackEntry.station
    by_cases hj : j = i
    · subst hj; simp [hattn]
    · rw [hothers j hj, hheld j]; simp [hj]
  · obtain ⟨x, hx, rfl⟩ := List.mem_map.mp hl
    exact Fin.lt_of_le_of_lt (hle x hx) habove
  · change Attention.Fits _
    by_cases hj : j = i
    · subst hj
      rw [hattn]
      exact ((s.recordsSound_iff.mp hrecords) j).of_cls (by simp [hi]) (by simp) rfl
    · rw [hothers j hj]
      exact hrecords j

theorem doTake (h : s.ServiceSound) : s.doTake.state.ServiceSound := by
  unfold State.doTake
  split
  · exact h
  rename_i hroom
  split
  · rename_i i hi
    split
    · rename_i habove
      exact h.pushStation (Nat.lt_of_not_le hroom) (of_decide_eq_true (highest_spec hi)) habove
    · exact h
  · exact h

/-- DONE pops the top entry, whose record leaves HELD with its class, or is CLEAR (R140). -/
theorem popStation (h : s.ServiceSound) {x : StackEntry} {rest : List StackEntry} (hstack : s.stack = x :: rest) :
    (({ s with stack := rest } : State).releaseStation x.station).ServiceSound := by
  obtain ⟨⟨hlength, hheld, hnodup, hlevels⟩, hrecords⟩ := h
  rw [hstack] at hlength hnodup hlevels
  have hstate : (s.attn x.station).state = .held := (hheld _).mpr (by simp [hstack])
  obtain ⟨r, hrelease, hr, hfits⟩ : ∃ r : Attention, ({ s with stack := rest } : State).releaseStation x.station =
      ({ s with stack := rest } : State).setAttn x.station r ∧ r.state ≠ .held ∧ r.Fits := by
    unfold State.releaseStation
    split
    · exact ⟨_, rfl, by decide, Attention.fits_none⟩
    · exact ⟨_, rfl, by simp, ((s.recordsSound_iff.mp hrecords) x.station).of_cls (by simp [hstate]) (by simp) rfl⟩
  rw [hrelease]
  obtain ⟨hgone, hnodup⟩ := List.nodup_cons.mp hnodup
  refine ⟨⟨Nat.le_of_succ_le hlength, fun j => ?_, hnodup, (List.pairwise_cons.mp hlevels).2⟩, fun j => ?_⟩
  · show _ ↔ j ∈ rest.map StackEntry.station
    by_cases hj : j = x.station
    · subst hj
      rw [State.setAttn_attn]
      exact iff_of_false hr hgone
    · rw [State.setAttn_attn_other _ _ hj]
      refine (hheld j).trans ?_
      simp [hstack, hj]
  · change Attention.Fits _
    by_cases hj : j = x.station
    · subst hj; rwa [State.setAttn_attn]
    · rw [State.setAttn_attn_other _ _ hj]; exact hrecords j

theorem doDone (h : s.ServiceSound) : s.doDone.state.ServiceSound := by
  unfold State.doDone
  split
  · exact h
  · rename_i hstack
    exact (h.popStation hstack).steady (.reoffer _)

/-- A request keeps the law, whatever its KIND and payload: it is answered by its owner or refused. -/
theorem handle (h : s.ServiceSound) (f : Frame) : (s.handle f).state.ServiceSound := by
  unfold State.handle
  split
  · split <;> exact h
  · split; exacts [h.steady .of_quiet, h]
  · split <;> exact h
  · split; exacts [h.steady .of_quiet, h]
  · split; exacts [h.steady (.doPartSet _ _ _ _), h]
  · split <;> exact h
  · split; exacts [h.steady (.doArrange _ _), h]
  · split; exacts [h.steady (.doPortSet _ _ _), h]
  · split; exacts [h.steady (.doPortGet _ _), h]
  · split; exacts [h.steady (.doLineStart _ _), h]
  · split; exacts [h.steady (.doLineStop _ _ _), h]
  · split; exacts [h.steady (.doLineStatus _ _), h]
  · split; exacts [h.steady (.doStationSet _ _ _), h]
  · split; exacts [h.steady (.doStationGet _ _), h]
  · split
    · split; exacts [h.steady (.doSlotSet _ _ _ _), h]
    · exact h
  · split; exacts [h.steady (.doSlotGet _ _ _ _), h]
  · split; exacts [h.steady (.doBankHeaderSet _ _ _), h]
  · split; exacts [h.steady (.doBankHeaderGet _ _ _), h]
  · split; exacts [h.steady (.doBankCopy _ _), h]
  · split; exacts [h.steady (.doBankSwap _ _ _), h]
  · split
    · split; exacts [h.steady (.doDescriptorSet _ _ _), h]
    · exact h
  · split; exacts [h.steady (.doDescriptorGet _ _), h]
  · split; exacts [h.steady (.doPairSet _ _ _), h]
  · split; exacts [h.steady (.doPairGet _ _), h]
  · split; exacts [h.steady (.doPairRead _ _ _ _), h]
  · split; exacts [h.steady (.handlePairWrite _ _ _ _), h]
  · split; exacts [h.steady (.doPairRelease _ _), h]
  · split; exacts [h.steady (.doPairCommit _ _), h]
  · split; exacts [h.steady (.handleDemand _ _ _ _ _ _ _ _ _), h]
  · split; exacts [h.doTake, h]
  · split; exacts [h.doDone, h]
  · split; exacts [h.steady (.doStoreSave _ _ _), h]
  · split; exacts [h.steady (.doStoreErase _), h]
  · split; exacts [h.steady (.doStoreCancel _), h]
  · exact h

end State.ServiceSound

end Sys2Proof.Machine
end

section
/-!
Every step keeps the service stack (O57): the clock, the field lines, the host link, the store and the resets.
-/

namespace Sys2Proof.Machine

namespace Steady
variable {s t : State}

/-! ### The clock and the engines' events (R51, R54, R157) -/

theorem reach (s : State) (e : Engine) (us : Nat) : Steady s (s.reach e us) := by
  unfold State.reach
  split
  · exact of_quiet
  · exact refl s

theorem periodExpiry {e : Engine} (ht : execPeriodExpiry e s = .next t) : Steady s t := by
  unfold execPeriodExpiry at ht
  split at ht <;> injection ht with ht <;> subst ht
  · exact (reach _ _ _).trans (periodExpires _ _)
  · exact refl s

theorem slotStartTime {e : Engine} (ht : execSlotStartTime e s = .next t) : Steady s t := by
  unfold execSlotStartTime at ht
  dsimp only at ht
  split at ht
  · split at ht <;> injection ht with ht <;> subst ht
    · exact (reach _ _ _).trans (slotStarts _ _)
    · exact refl s
  · injection ht with ht; exact ht ▸ refl s

/-! ### Events of the field lines (chapter 1) -/

theorem requestFrameSent {p : PortId} (ht : execRequestFrameSent p s = .next t) : Steady s t := by
  unfold execRequestFrameSent at ht
  split at ht <;> injection ht with ht <;> subst ht
  · exact withPort _ _ _
  all_goals exact refl s

/-- An attempt ends with a last character at the port (R5). -/
theorem endWithChar (s : State) (p : PortId) (a : Attempt) (r : Report) (g : Port → Port) :
    Steady s ((s.withPort p g).endAttempt p a r) := (withPort _ _ _).trans (endAttempt _ _ _ _)

theorem fieldChar (s : State) (p : PortId) (v : Byte) (parity stop : Level) : Steady s (s.fieldChar p v parity stop) := by
  unfold State.fieldChar
  dsimp only
  split
  · split
    · exact withPort _ _ _
    · exact endWithChar _ _ _ _ _
  · exact refl s

theorem replyFrameComplete {p : PortId} {rest : List Byte} (ht : execReplyFrameComplete p rest s = .next t) : Steady s t := by
  unfold execReplyFrameComplete at ht
  split at ht
  · split at ht <;> injection ht with ht <;> subst ht
    · exact endWithChar _ _ _ _ _
    · exact refl s
  · split at ht <;> injection ht with ht <;> subst ht
    · exact endWithChar _ _ _ _ _
    · exact refl s
  all_goals injection ht with ht; exact ht ▸ refl s

theorem replyTimeout {p : PortId} (ht : execReplyTimeout p s = .next t) : Steady s t := by
  unfold execReplyTimeout at ht
  split at ht
  · split at ht <;> injection ht with ht <;> subst ht
    · exact withPort _ _ _
    · exact endAttempt _ _ _ _
  all_goals injection ht with ht; exact ht ▸ refl s

theorem replyGapExpiry {p : PortId} (ht : execReplyGapExpiry p s = .next t) : Steady s t := by
  unfold execReplyGapExpiry at ht
  split at ht
  · split at ht <;> injection ht with ht <;> subst ht
    · exact refl s
    · exact endAttempt _ _ _ _
  · split at ht <;> injection ht with ht <;> subst ht
    · exact refl s
    · exact endAttempt _ _ _ _
  all_goals injection ht with ht; exact ht ▸ refl s

theorem discardLimitReached {last : LastCharacter} (ht : execDiscardLimitReached last s = .next t) : Steady s t := by
  unfold execDiscardLimitReached at ht
  split at ht
  · split at ht <;> injection ht with ht <;> subst ht
    · exact endWithChar _ _ _ _ _
    · exact refl s
  all_goals injection ht with ht; exact ht ▸ refl s

theorem abortedCharacterEnd {p : PortId} (ht : execAbortedCharacterEnd p s = .next t) : Steady s t := by
  unfold execAbortedCharacterEnd at ht
  split at ht <;> injection ht with ht <;> subst ht
  · exact withPort _ _ _
  all_goals exact refl s

theorem turnaroundGapExpiry {p : PortId} (ht : execTurnaroundGapExpiry p s = .next t) : Steady s t := by
  unfold execTurnaroundGapExpiry at ht
  split at ht <;> injection ht with ht <;> subst ht
  · exact (withPort _ _ _).trans (portReady _ _ _)
  all_goals exact refl s

theorem lineLow {p : PortId} (ht : execLineLow p s = .next t) : Steady s t := by
  unfold execLineLow at ht
  split at ht <;> injection ht with ht <;> subst ht
  · exact withPort _ _ _
  · exact refl s

theorem lineHigh {p : PortId} (ht : execLineHigh p s = .next t) : Steady s t := by
  unfold execLineHigh at ht
  split at ht <;> injection ht with ht <;> subst ht
  · exact withPort _ _ _
  · exact refl s

theorem lineMonitorTimerExpiry {p : PortId} (ht : execLineMonitorTimerExpiry p s = .next t) : Steady s t := by
  have called : ∀ (u : State) (e : Engine), Steady u (u.lineCall e p) := fun u e => by
    unfold State.lineCall; exact ite (raise _ _) (withEngine _ _ _)
  unfold execLineMonitorTimerExpiry at ht
  split at ht <;> injection ht with ht <;> subst ht
  · exact (withPort _ _ _).trans (called _ _)
  · exact refl s

/-! ### Events of the store (R163, R165) -/

theorem storeWpAsserted {pins : BoardPins} (ht : execStoreWpAsserted pins s = .next t) : Steady s t := by
  unfold execStoreWpAsserted at ht
  have pinned : Steady s { s with storeWp := pins.storeWp, lr1 := pins.lr1, lr0 := pins.lr0 } := of_quiet
  dsimp only at ht
  split at ht <;> injection ht with ht <;> subst ht
  · exact pinned.trans (cancelStore _ _)
  · exact pinned

theorem blockEraseComplete {erased : Bool} (ht : execBlockEraseComplete erased s = .next t) : Steady s t := by
  unfold execBlockEraseComplete at ht
  split at ht
  · rename_i op block _
    have setErased : Steady s { s with region := s.region.setErased block } := ofStore s _ s.store s.imageState
    dsimp only at ht
    split at ht
    · split at ht <;> injection ht with ht <;> subst ht
      · refine setErased.trans ?_
        unfold State.eraseDone State.beginPage
        split
        · exact ofStore _ _ _ _
        · exact endStore _ _ _ _
      · exact setErased.trans (ofStore _ _ _ _)
    · injection ht with ht
      exact ht ▸ endStore _ _ _ _
  all_goals injection ht with ht; exact ht ▸ refl s

theorem eraseTimeout (ht : execEraseTimeout s = .next t) : Steady s t := by
  unfold execEraseTimeout at ht
  split at ht <;> injection ht with ht <;> subst ht
  · exact endStore _ _ _ _
  all_goals exact refl s

theorem programFails (s : State) : Steady s s.programFails := by
  have torn : ∀ page, Steady s { s with region := s.region.beginProgram page } := fun page => ofStore s _ s.store s.imageState
  unfold State.programFails State.beginPage State.beginMark
  split
  · exact ite ((torn _).trans (endStore _ _ _ _)) (ofStore _ _ _ _)
  · exact ite ((torn _).trans (endStore _ _ _ _)) (ofStore _ _ _ _)
  · exact refl s
  · exact refl s

theorem programVerifies (s : State) : Steady s s.programVerifies := by
  have programmed : ∀ page bytes, Steady s { s with region := s.region.programmed page bytes } := fun page bytes =>
    ofStore s _ s.store s.imageState
  unfold State.programVerifies State.beginPage State.beginMark
  split
  · exact (programmed _ _).trans (ite (ofStore _ _ _ _) (ofStore _ _ _ _))
  · exact (programmed _ _).trans (endStore _ _ _ _)
  · exact refl s
  · exact refl s

theorem pageProgramComplete {how : ProgramEnd} (ht : execPageProgramComplete how s = .next t) : Steady s t := by
  cases how <;> injection ht with ht <;> subst ht
  · exact programVerifies s
  · exact programFails s
  · unfold State.programEnds
    split
    · exact ofStore _ _ _ _
    · exact ofStore _ _ _ _
    · exact refl s
    · exact refl s

theorem programTimeout (ht : execProgramTimeout s = .next t) : Steady s t := by
  unfold execProgramTimeout at ht
  split at ht <;> injection ht with ht <;> subst ht
  · exact refl s
  · exact programFails s

theorem transmit (s : State) : Steady s s.transmit := of_quiet (by simp) (by simp)

theorem autostart (s : State) (m : Image) : Steady s (s.autostart m) := by
  unfold State.autostart
  exact trans (ite (startEngine _ _) (refl _)) (ite (startEngine _ _) (refl _))

/-- Start-up starts engines alone, which leave the records as reset has them (R168 to R170). -/
theorem startUp (s : State) (cause : ResetCause) : Steady s (s.startUp cause) := by
  unfold State.startUp
  split
  · rename_i source m _
    have applied : Steady s (({ s with imageState := .valid, startSource := source } : State).applyImage m) := of_quiet
    exact (applied.trans (autostart _ _)).trans (raise _ _)
  · rename_i source _
    have checked : Steady s { s with imageState := .invalid, startSource := source } := of_quiet
    exact checked.trans (raise _ _)

end Steady

/-! ### Reset, and events of the host link (R147 to R151, R159) -/

namespace State.ServiceSound
variable {s t : State}

theorem fullReset (s : State) (cause : ResetCause) : (s.fullReset cause).ServiceSound :=
  (State.serviceSound_reset.steady (t := s.resetBlocks) .of_quiet).steady (.startUp _ cause)

theorem dispatch (h : s.ServiceSound) (f : Frame) : (s.dispatch f).ServiceSound := by
  have handled := (h.steady (t := s.reserveTx f) .of_quiet).handle f
  have placed : Steady ((s.reserveTx f).handle f).state (s.dispatch f) := .of_same (.placeReply _ _ _ _)
  exact handled.steady placed

theorem acceptFrame (h : s.ServiceSound) (f : Frame) : (s.acceptFrame f).ServiceSound := by
  unfold State.acceptFrame
  split
  · exact h.dispatch f
  · exact h.steady .of_quiet
  · exact h

theorem setRx (h : s.ServiceSound) (x : LinkRx) : ({ s with rx := x } : State).ServiceSound := h.steady .of_quiet

theorem receiveFrame (h : s.ServiceSound) (f : Frame) : (s.receiveFrame f).ServiceSound := by
  unfold State.receiveFrame
  split
  · exact (h.setRx _).acceptFrame f
  · exact h.setRx _

theorem frameComplete (h : s.ServiceSound) (bytes : List Byte) : (s.frameComplete bytes).ServiceSound := by
  unfold State.frameComplete
  split
  · exact h.acceptFrame _
  · exact h

theorem hostByte (h : s.ServiceSound) (b : Byte) (stop : Level) (returned : Bool) : (s.hostByte b stop returned).ServiceSound := by
  unfold State.hostByte
  split
  · exact h.setRx _
  · exact (h.setRx _).frameComplete _

theorem requestFrameComplete (h : s.ServiceSound) {rest : List Byte} (ht : execRequestFrameComplete rest s = .next t) :
    t.ServiceSound := by
  unfold execRequestFrameComplete at ht
  split at ht <;> injection ht with ht <;> subst ht
  · exact (h.setRx _).frameComplete _
  · exact h

theorem hostGapTimerExpiry (h : s.ServiceSound) (ht : execHostGapTimerExpiry s = .next t) : t.ServiceSound := by
  unfold execHostGapTimerExpiry at ht
  split at ht <;> injection ht with ht <;> subst ht
  · exact h.setRx _
  all_goals exact h

theorem noticeSent (h : s.ServiceSound) (ht : execNoticeSent s = .next t) : t.ServiceSound := by
  have freed : Steady s { s with tx := none } := .of_quiet
  unfold execNoticeSent at ht
  split at ht <;> injection ht with ht <;> subst ht
  · exact h.steady (freed.trans (.transmit _))
  all_goals exact h

theorem replyEnds (h : s.ServiceSound) : s.replyEnds.ServiceSound := by
  have emptied : ∀ x, ({ s with processing := none, tx := none, held := x } : State).ServiceSound := fun _ => h.steady .of_quiet
  unfold State.replyEnds
  dsimp only
  split
  · exact fullReset _ _
  split
  · exact (emptied none).dispatch _
  · exact (emptied s.held).steady (.transmit _)

theorem replySent (h : s.ServiceSound) (ht : execReplySent s = .next t) : t.ServiceSound := by
  unfold execReplySent at ht
  split at ht <;> injection ht with ht <;> subst ht
  · exact h.replyEnds
  all_goals exact h

/-! ### Every command, and every step -/

theorem exec (h : s.ServiceSound) {i : Instr} (ht : exec i s = .next t) : t.ServiceSound := by
  have request : ∀ {f}, requestFrame i = some f → t.ServiceSound := fun hf => by
    rw [exec_of_requestFrame hf] at ht
    injection ht with ht
    exact ht ▸ h.receiveFrame _
  cases i with
  | requestFrameComplete rest => exact h.requestFrameComplete ht
  | hostGapTimerExpiry => exact h.hostGapTimerExpiry ht
  | replySent => exact h.replySent ht
  | noticeSent => exact h.noticeSent ht
  | powerOn l1 l0 => injection ht with ht; exact ht ▸ fullReset _ _
  | resetPin l1 l0 => injection ht with ht; exact ht ▸ fullReset _ _
  | hostByteReceived v x => injection ht with ht; exact ht ▸ h.hostByte v x.stop x.returned
  | storeWpAsserted pins => exact h.steady (.storeWpAsserted ht)
  | blockEraseComplete erased => exact h.steady (.blockEraseComplete ht)
  | eraseTimeout => exact h.steady (.eraseTimeout ht)
  | pageProgramComplete how => exact h.steady (.pageProgramComplete ht)
  | programTimeout => exact h.steady (.programTimeout ht)
  | periodExpiry e => exact h.steady (.periodExpiry ht)
  | slotStartTime e => exact h.steady (.slotStartTime ht)
  | requestFrameSent p => exact h.steady (.requestFrameSent ht)
  | replyTimeout p => exact h.steady (.replyTimeout ht)
  | replyFrameComplete p rest => exact h.steady (.replyFrameComplete ht)
  | replyGapExpiry p => exact h.steady (.replyGapExpiry ht)
  | discardLimitReached last => exact h.steady (.discardLimitReached ht)
  | abortedCharacterEnd p => exact h.steady (.abortedCharacterEnd ht)
  | turnaroundGapExpiry p => exact h.steady (.turnaroundGapExpiry ht)
  | lineLow p => exact h.steady (.lineLow ht)
  | lineHigh p => exact h.steady (.lineHigh ht)
  | lineMonitorTimerExpiry p => exact h.steady (.lineMonitorTimerExpiry ht)
  | fieldCharacterReceived p v x => injection ht with ht; exact ht ▸ h.steady (.fieldChar s p v x.parity x.stop)
  | _ => exact request rfl

/-- A step runs the front command on the rest of the queue, or lets a microsecond pass. -/
theorem step (h : s.ServiceSound) (ht : step s = .next t) : t.ServiceSound := by
  unfold Machine.step at ht
  split at ht
  · injection ht with ht
    exact ht ▸ h.steady (t := s.advance 1) .of_quiet
  · rename_i rest _
    exact exec (s := { s with pending := rest }) (h.steady .of_quiet) ht

end State.ServiceSound

/-- Settles O57: every operation but TAKE and DONE leaves the stack alone and keeps each record HELD or out of it; these two
move one station with its entry. -/
theorem everyStepKeepsTheStack : Obligations.EveryStepKeepsTheStack := fun _ _ h ht => h.step ht

end Sys2Proof.Machine
end

section
/-!
A raised notice (O8), and a reply status at the Arbiter (O47).
-/

namespace Sys2Proof.Machine

/-- A free transmitter with nothing before the notice begins it at once (R151). -/
theorem State.raise_of_free (n : Notice) (s : State) (he : n.enabled s.enables = true) (ht : s.tx = none)
    (hr : s.replySlot = none) (hn : s.notices = []) : s.raise n = { s with tx := some ⟨.notice ⟨n, s.time⟩, 0⟩ } := by
  have queued : s.queueNotice n = { s with notices := [⟨n, s.time⟩] } := by simp [State.queueNotice, hn, Config.noticeEntries]
  rw [State.raise, if_pos he, queued, ← hn]
  simp [State.transmit, ht, hr]

/-- Settles O8: the enable first, then the transmitter, then the room in the queue. -/
theorem raisedNoticeIsQueuedOrDropped : Obligations.RaisedNoticeIsQueuedOrDropped := by
  intro s n
  refine ⟨s.raise_of_disabled n, fun he => ⟨s.raise_of_free n he, fun x hx => s.raise_of_busy n x he hx, fun x hx =>
    s.raise_of_full n x he hx⟩, ?_⟩
  cases n <;> rfl

/-- A class processed, as one write of the record (R88). -/
theorem State.takeClass_eq (s : State) (i : Fin 64) (cls : Fin 3) :
    s.takeClass i cls = s.setAttn i (.ofClass (s.station i).config s.mask cls) := by
  unfold State.takeClass State.escalationCheck Attention.ofClass
  simp only [State.setAttn_attn, State.setAttn_station, State.eligible, State.setAttn_mask, decide_eq_true_eq,
    State.setAttn_setAttn]
  (repeat' split) <;> rfl

/-- Settles O47: the record is found in one of its states; a class is processed by one write. -/
theorem arbiterTakesStatus : Obligations.ArbiterTakesStatus := by
  intro s i src t st level processed
  have hprocessed : s.takeClass i t.cls = processed := s.takeClass_eq i t.cls
  unfold State.takeStatus
  refine ⟨?_, ?_, fun hacking => ?_⟩
  · rintro (hstate | hstate) <;> (rw [hstate]; exact hprocessed)
  · rintro (hstate | hstate | hstate) <;> rw [hstate]
  · rw [hacking]
    cases src with
    | acknowledge =>
      dsimp only
      rw [hprocessed]
      cases t.busy <;> simp
    | _ => simp

end Sys2Proof.Machine
end

section
/-!
PART-SET with its mask set (O13): the records are examined in index order, and an entry is handed over at once.
-/

namespace Sys2Proof.Machine

/-! ### A raised notice and a record's write do not meet -/

theorem State.raise_setAttn (s : State) (n : Notice) (i : Fin 64) (r : Attention) :
    (s.raise n).setAttn i r = (s.setAttn i r).raise n := by
  have queued : (s.queueNotice n).setAttn i r = (s.setAttn i r).queueNotice n := by
    unfold State.queueNotice
    rw [State.setAttn_notices]
    split <;> rfl
  have transmitted : ∀ u : State, u.transmit.setAttn i r = (u.setAttn i r).transmit := fun u => by
    unfold State.transmit
    rw [State.setAttn_tx, State.setAttn_replySlot, State.setAttn_notices]
    (repeat' split) <;> rfl
  unfold State.raise
  rw [State.setAttn_enables]
  split
  · rw [transmitted, queued]
  · rfl

theorem State.raiseAll_setAttn (s : State) (ns : List Notice) (i : Fin 64) (r : Attention) :
    (s.raiseAll ns).setAttn i r = (s.setAttn i r).raiseAll ns := by
  induction ns generalizing s with
  | nil => rfl
  | cons n ns ih => exact (ih _).trans (congrArg (State.raiseAll · ns) (s.raise_setAttn n i r))

theorem EngineFrame.raiseAll (s : State) (ns : List Notice) : EngineFrame s (s.raiseAll ns) := foldl _ raise ns s

/-! ### The mask set (R86) -/

/-- The attention records are written. -/
def State.withAttention (s : State) (v : Vector Attention 64) : State := { s with attention := v }

theorem State.withAttention_attention (s : State) : s.withAttention s.attention = s := rfl

theorem State.withAttention_setAttn (s : State) (v : Vector Attention 64) (i : Fin 64) (r : Attention) :
    (s.withAttention v).setAttn i r = s.withAttention (v.set i r) := rfl

/-- The stations that satisfy `p` become ESCALATED at their levels. -/
def State.escalated (s : State) (p : Fin 64 → Bool) : State :=
  s.withAttention (.ofFn fun i => { s.attn i with state := if p i then .escalated else (s.attn i).state })

theorem State.escalated_attn (s : State) (p : Fin 64 → Bool) (i : Fin 64) :
    (s.escalated p).attn i = { s.attn i with state := if p i then .escalated else (s.attn i).state } := by
  simp [State.escalated, State.withAttention, State.attn]

theorem State.escalated_level (s : State) (p : Fin 64 → Bool) (i : Fin 64) : ((s.escalated p).attn i).level =
    (s.attn i).level := by
  rw [State.escalated_attn]

theorem State.escalated_cls (s : State) (p : Fin 64 → Bool) (i : Fin 64) : ((s.escalated p).attn i).cls =
    (s.attn i).cls := by
  rw [State.escalated_attn]

theorem State.escalated_station (s : State) (p : Fin 64 → Bool) (i : Fin 64) : (s.escalated p).station i = s.station i := by
  simp only [State.escalated, State.withAttention, State.station]

theorem State.escalated_mask (s : State) (p : Fin 64 → Bool) : (s.escalated p).mask = s.mask := by
  simp only [State.escalated, State.withAttention]

theorem State.escalated_serviceLevel (s : State) (p : Fin 64 → Bool) : (s.escalated p).serviceLevel = s.serviceLevel := by
  simp only [State.escalated, State.withAttention, State.serviceLevel]

theorem SameRecords.serviceLevel {s t : State} (h : SameRecords s t) : t.serviceLevel = s.serviceLevel := by
  rw [State.serviceLevel, State.serviceLevel, h.stack]

/-- No station becomes ESCALATED. -/
theorem State.escalated_none (s : State) {p : Fin 64 → Bool} (hp : ∀ i, p i = false) : s.escalated p = s := by
  refine (congrArg s.withAttention (Vector.ext fun j hj => ?_)).trans s.withAttention_attention
  rw [Vector.getElem_ofFn, hp]
  rfl

/-- One more station becomes ESCALATED. -/
theorem State.escalated_setAttn (s : State) {p q : Fin 64 → Bool} {i : Fin 64} (hi : q i = true)
    (hq : ∀ j, j ≠ i → q j = p j) :
    (s.escalated p).setAttn i { (s.escalated p).attn i with state := .escalated } = s.escalated q := by
  rw [State.escalated_attn, State.escalated, State.withAttention_setAttn]
  refine congrArg s.withAttention (Vector.ext fun j hj => ?_)
  rw [Vector.getElem_set, Vector.getElem_ofFn, Vector.getElem_ofFn]
  split
  · rename_i h
    obtain rfl : i = ⟨j, hj⟩ := Fin.ext h
    rw [hi, if_pos rfl]
  · rename_i h
    rw [hq _ fun he => h (congrArg Fin.val he.symm)]

/-- Whether a mask set that examines the records below `k` has made a station ESCALATED. -/
def State.entered (s : State) (k : Nat) (i : Fin 64) : Bool := s.maskEscalates i && decide (i.val < k)

/-- The ENTRY notices of a mask set at the stations of a list: those that enter above the service level, each with the count of
the escalated set as it then is (R86, R135). -/
def State.maskNotices (s : State) (xs : List (Fin 64)) : List Notice :=
  (xs.filter fun i => s.maskEscalates i && decide (s.serviceLevel < (s.attn i).level)).map fun i =>
    .escalation i (s.attn i).level (s.attn i).cls .host (some .mask)
      ((List.finRange 64).countP fun j => decide ((s.attn j).state = .escalated) || (s.maskEscalates j && decide (j ≤ i)))
      s.serviceLevel

theorem State.maskNotices_append (s : State) (xs ys : List (Fin 64)) :
    s.maskNotices (xs ++ ys) = s.maskNotices xs ++ s.maskNotices ys := by
  simp only [State.maskNotices, List.filter_append, List.map_append]

theorem State.maskEscalates_iff (s : State) (i : Fin 64) : s.maskEscalates i = true ↔ (s.attn i).state = .pending ∧
    (s.station i).config.mode = .host ∧ ((s.attn i).level = 8 ∨ s.mask.val < (s.attn i).level.val) := by
  simp [State.maskEscalates, State.eligible, and_assoc]

theorem State.entered_succ_of_ne (s : State) {i j : Fin 64} (h : j ≠ i) : s.entered (i.val + 1) j = s.entered i.val j := by
  have hne : j.val ≠ i.val := fun he => h (Fin.ext he)
  exact congrArg (s.maskEscalates j && ·) (decide_eq_decide.mpr (by omega))

theorem State.entered_succ_self (s : State) (i : Fin 64) : s.entered (i.val + 1) i = s.maskEscalates i := by
  simp [State.entered]

/-- The hand-over of a station that the mask set has just made ESCALATED. -/
theorem State.handOver_entered (s : State) {i : Fin 64} (hi : s.maskEscalates i = true) (ns : List Notice) :
    ((s.escalated (s.entered (i.val + 1))).raiseAll ns).handOver i .mask =
      (s.escalated (s.entered (i.val + 1))).raiseAll (ns ++ s.maskNotices [i]) := by
  obtain ⟨-, hmode, -⟩ := (s.maskEscalates_iff i).mp hi
  have same := SameRecords.raiseAll ns (s.escalated (s.entered (i.val + 1)))
  have hcount : ∀ j, decide (((s.escalated (s.entered (i.val + 1))).attn j).state = .escalated) =
      (decide ((s.attn j).state = .escalated) || (s.maskEscalates j && decide (j ≤ i))) := fun j => by
    have hle : decide (j.val < i.val + 1) = decide (j ≤ i) := decide_eq_decide.mpr Nat.lt_succ_iff
    rw [State.escalated_attn, State.entered, hle]
    cases s.maskEscalates j && decide (j ≤ i) <;> simp
  rw [State.handOver_eq, State.raiseAll_append, same.serviceLevel, State.escalated_serviceLevel]
  simp only [same.attn, same.station, hcount, State.escalated_level, State.escalated_cls, State.escalated_station]
  rw [hmode, State.maskNotices, List.filter_cons, hi, Bool.true_and]
  by_cases habove : s.serviceLevel < (s.attn i).level
  · rw [if_pos habove, if_pos (decide_eq_true habove)]
    rfl
  · rw [if_neg habove, if_neg (by simp [habove])]
    rfl

/-- The mask set at one record, behind the records below it. -/
theorem State.maskRecord_entered (s : State) (i : Fin 64) (ns : List Notice) :
    ((s.escalated (s.entered i.val)).raiseAll ns).maskRecord i =
      (s.escalated (s.entered (i.val + 1))).raiseAll (ns ++ s.maskNotices [i]) := by
  let u := s.escalated (s.entered i.val)
  have hattn : (u.raiseAll ns).attn i = u.attn i := (SameRecords.raiseAll _ _).attn i
  have hfound : u.attn i = s.attn i := by
    rw [State.escalated_attn]
    simp [State.entered]
  have hescalates : (u.raiseAll ns).maskEscalates i = s.maskEscalates i := by
    unfold State.maskEscalates State.eligible
    rw [hattn, hfound, (SameRecords.raiseAll _ _).station, (EngineFrame.raiseAll _ _).mask, State.escalated_station,
      State.escalated_mask]
  show (u.raiseAll ns).maskRecord i = _
  rw [State.maskRecord, hescalates]
  split
  · rename_i hi
    rw [hattn, State.raiseAll_setAttn, s.escalated_setAttn ((s.entered_succ_self i).trans hi) fun j => s.entered_succ_of_ne]
    exact s.handOver_entered hi ns
  · rename_i hi
    have hsame : s.entered (i.val + 1) = s.entered i.val := funext fun j => by
      by_cases hj : j = i
      · subst hj; simp [State.entered, hi]
      · exact s.entered_succ_of_ne hj
    have hnone : s.maskNotices [i] = [] := by simp [State.maskNotices, hi]
    rw [hsame, hnone, List.append_nil]

/-- The mask set, record by record in index order: behind the first `k` records, those of them that enter are ESCALATED, and
their notices have been raised. -/
theorem State.maskRecords_eq (s : State) (k : Nat) (hk : k ≤ 64) :
    ((List.finRange 64).take k).foldl State.maskRecord s =
      (s.escalated (s.entered k)).raiseAll (s.maskNotices ((List.finRange 64).take k)) := by
  induction k with
  | zero => exact (s.escalated_none fun i => by simp [State.entered]).symm
  | succ k ih =>
    have htake : (List.finRange 64).take (k + 1) = (List.finRange 64).take k ++ [⟨k, hk⟩] := by
      rw [List.take_succ_eq_append_getElem (by simpa using hk), List.getElem_finRange]
      rfl
    rw [htake, List.foldl_append, ih (Nat.le_of_succ_le hk), List.foldl_cons, List.foldl_nil, State.maskNotices_append]
    exact s.maskRecord_entered ⟨k, hk⟩ _

/-- The mask set with its notices (R86, R90). -/
theorem State.maskSet_eq (s : State) : s.maskSet = (s.escalated s.maskEscalates).raiseAll (s.maskNotices (List.finRange 64)) := by
  have hall : (List.finRange 64).take 64 = List.finRange 64 := List.take_of_length_le (by simp)
  have hentered : s.entered 64 = s.maskEscalates := funext fun i => by simp [State.entered]
  have h := s.maskRecords_eq 64 (Nat.le_refl _)
  rwa [hall, hentered] at h

/-! ### PART-SET -/

/-- M, D and the enables are written (R85). -/
def State.withPart (s : State) (m d : Fin 8) (n : Byte) : State :=
  { s with mask := m, demandLevel := d, enables := .ofByte n }

theorem State.doPartSet_eq (s : State) (m d : Fin 8) (n : Byte) : s.doPartSet (byteOf m.val) (byteOf d.val) n =
    (if m = s.mask then s.withPart m d n else (s.withPart m d n).maskSet).ok [] := by
  rw [State.doPartSet, finOf_byteOf m (by omega), finOf_byteOf d (by omega)]
  rfl

theorem State.doPartSet_eq_refuse (s : State) {m d : Byte} (n : Byte) (h : 7 < m.toNat ∨ 7 < d.toNat) :
    s.doPartSet m d n = s.refuse .badValue := by
  unfold State.doPartSet
  obtain h | h := h
  · rw [finOf_eq_none h]
  · rw [finOf_eq_none (b := d) h]
    cases finOf 8 m <;> rfl

/-- Settles O13: the ranges first, then the writes, and with a new M the mask set of the state that they leave. -/
theorem partSetWritesAndMasks : Obligations.PartSetWritesAndMasks := by
  constructor
  · intro s tag m d n hproc
    let f : Frame := ⟨0x05, tag, [m, d, n]⟩
    constructor
    · intro hbad
      exact exec_of_refused (f := f) rfl hproc (Nat.le_of_ble_eq_true rfl) ((s.inDispatch f).doPartSet_eq_refuse n hbad)
    · rintro mm dd rfl rfl rfl
      have handled : (s.inDispatch f).handle f = ((s.inDispatch f).withPart s.mask dd n).ok [] :=
        ((s.inDispatch f).doPartSet_eq s.mask dd n).trans (congrArg (State.ok · []) (if_pos rfl))
      rw [exec_of_handled (f := f) rfl hproc (Nat.le_of_ble_eq_true rfl) handled]
      exact congrArg Host.Outcome.next (State.placeReply_of_quiet s f _ (fun u => u.withPart s.mask dd n) rfl rfl)
  · intro s tag n mm dd hproc hne enters
    let f : Frame := ⟨0x05, tag, [byteOf mm.val, byteOf dd.val, n]⟩
    let v := (s.inDispatch f).withPart mm dd n
    have handled : (s.inDispatch f).handle f = v.maskSet.ok [] :=
      ((s.inDispatch f).doPartSet_eq mm dd n).trans (congrArg (State.ok · []) (if_neg hne))
    have henters : v.maskEscalates = enters := funext fun i =>
      Bool.eq_iff_iff.mpr ((v.maskEscalates_iff i).trans decide_eq_true_iff.symm)
    rw [exec_of_handled (f := f) rfl hproc (Nat.le_of_ble_eq_true rfl) handled, State.maskSet_eq, State.maskNotices, henters]
    rfl

end Sys2Proof.Machine
end

section
/-!
DESCRIPTOR-SET and DESCRIPTOR-GET (O22): the record is read from its bytes, or is none when a value is out of its range.
-/

namespace Sys2Proof.Machine

/-! ### The descriptor record (R102, R104) -/

theorem xferKindOf_eq_none {b : Byte} (h : b = 0 ∨ 2 < b.toNat) : xferKindOf b = none := by
  have h1 : b ≠ 1 := by rintro rfl; revert h; decide
  have h2 : b ≠ 2 := by rintro rfl; revert h; decide
  rw [xferKindOf, if_neg h1, if_neg h2]

/-- The descriptor that a record writes, its flags byte taken apart (11.3). -/
def Descriptor.written (k : XferKind) (point : Word) (per remaining : Byte) (p : Fin 16) (w : Fin 128) (flags : Byte) :
    Descriptor where
  kind := k
  point := point
  perTransfer := per
  remaining := remaining
  pair := p
  wordOffset := w
  advancePoint := flags.getLsbD 0
  advanceOffset := flags.getLsbD 1
  flipAtEnd := flags.getLsbD 2
  endAction := if flags.getLsbD 3 then .acknowledge else .escalate

/-- The bytes of a DESCRIPTOR-SET's record, behind the descriptor's index (11.4). -/
def Descriptor.record (kind : Byte) (point : Word) (per remaining pair wordOffset flags : Byte) : List Byte :=
  kind :: (wordBytes point ++ [per, remaining, pair, wordOffset, flags, 0, 0, 0, 0, 0, 0, 0, 0])

theorem Descriptor.ofBytes_record (k : XferKind) (point : Word) {per : Byte} (remaining : Byte) (p : Fin 16) {w : Fin 128}
    (flags : Byte) (hlow : per ≠ 0) (hhigh : per.toNat ≤ 16) (hfits : w.val + per.toNat ≤ 128) :
    Descriptor.ofBytes (Descriptor.record k.code point per remaining (byteOf p.val) (byteOf w.val) flags) =
      some (.written k point per remaining p w flags) := by
  have hpos : 1 ≤ per.toNat := Nat.pos_of_ne_zero fun h => hlow (BitVec.eq_of_toNat_eq h)
  simp only [Descriptor.record, wordBytes, List.cons_append, List.nil_append, Descriptor.ofBytes, xferKindOf_code,
    finOf_byteOf p (by omega), finOf_byteOf w (by omega), wordOf_wordBytes]
  exact if_pos ⟨hpos, hhigh, hfits⟩

theorem Descriptor.ofBytes_record_eq_none {kind per pair wordOffset : Byte} (point : Word) (remaining flags : Byte)
    (h : kind = 0 ∨ 2 < kind.toNat ∨ per = 0 ∨ 16 < per.toNat ∨ 15 < pair.toNat ∨ 127 < wordOffset.toNat ∨
      128 < wordOffset.toNat + per.toNat) :
    Descriptor.ofBytes (Descriptor.record kind point per remaining pair wordOffset flags) = none := by
  simp only [Descriptor.record, wordBytes, List.cons_append, List.nil_append, Descriptor.ofBytes]
  split
  · rename_i k p w hk hp hw
    refine if_neg fun ⟨hlow, hhigh, hfits⟩ => ?_
    rcases h with h | h | h | h | h | h | h
    · rw [xferKindOf_eq_none (.inl h)] at hk; cases hk
    · rw [xferKindOf_eq_none (.inr h)] at hk; cases hk
    · subst h; exact absurd hlow (by decide)
    · omega
    · rw [finOf_eq_none h] at hp; cases hp
    · rw [finOf_eq_none h] at hw; cases hw
    · have hoffset : wordOffset.toNat = w.val := by
        rw [byteOf_of_finOf hw, toNat_byteOf]
        omega
      omega
  · rfl

/-! ### The two requests (R104, R106) -/

theorem State.doDescriptorSet_refuse (s : State) {descriptor : Byte} {record : List Byte}
    (h : 31 < descriptor.toNat ∨ Descriptor.ofBytes record = none) :
    s.doDescriptorSet descriptor record = s.refuse .badValue := by
  unfold State.doDescriptorSet
  obtain h | h := h
  · rw [finOf_eq_none h]
  · rw [h]
    cases finOf 32 descriptor <;> rfl

/-- DESCRIPTOR-SET of a record in range is answered by the claim (R104). -/
theorem State.doDescriptorSet_eq (s : State) (d : Fin 32) {record : List Byte} {r : Descriptor}
    (h : Descriptor.ofBytes record = some r) : s.doDescriptorSet (byteOf d.val) record =
      if (s.claim d).isSome then s.refuse .descriptorBusy else (s.setDescriptor d r).ok [] := by
  rw [State.doDescriptorSet, finOf_byteOf d (by omega), h]

theorem State.doDescriptorGet_eq (s : State) (d : Fin 32) : s.doDescriptorGet (byteOf d.val) =
    s.ok ((s.descriptor d).toBytes ++ [claimCode (s.claim d), s.subjectByte (s.claim d)]) := by
  rw [State.doDescriptorGet, finOf_byteOf d (by omega)]

/-- The claim's two items by the claiming engine's transaction (R106, 11.4). -/
theorem State.claimItems_eq (s : State) (c : Option Engine) : [claimCode c, s.subjectByte c] =
    match c with
    | none => [0, 0xFF]
    | some e => [if e = .a then 1 else 2, match (s.engine e).activity with
        | .inTransaction t => byteOf t.subject.val
        | _ => 0xFF] := by
  cases c with
  | none => rfl
  | some e =>
    have hcode : claimCode (some e) = if e = .a then 1 else 2 := by cases e <;> rfl
    rw [hcode, State.subjectByte]
    dsimp only
    cases (s.engine e).activity <;> rfl

/-- Settles O22: a record in range is written unless the descriptor is claimed, and read with its claim. -/
theorem descriptorIsWrittenAndRead : Obligations.DescriptorIsWrittenAndRead := by
  constructor
  · intro s tag descriptor kind point per remaining pair wordOffset flags f hproc c hf
    let record := Descriptor.record kind point per remaining pair wordOffset flags
    obtain rfl : (⟨0x15, tag, descriptor :: record⟩ : Frame) = f := Option.some.inj hf
    have handled : ∀ u : State, u.handle ⟨0x15, tag, descriptor :: record⟩ = u.doDescriptorSet descriptor record := fun _ => rfl
    constructor
    · intro hbad
      refine exec_of_refused hf hproc (Nat.le_of_ble_eq_true rfl) ((handled _).trans (State.doDescriptorSet_refuse _ ?_))
      exact hbad.imp_right fun h => Descriptor.ofBytes_record_eq_none point remaining flags h
    · rintro d k p w rfl rfl hlow hhigh rfl rfl hfits
      let u := s.inDispatch ⟨0x15, tag, byteOf d.val :: record⟩
      have answered := (handled u).trans
        (u.doDescriptorSet_eq d (Descriptor.ofBytes_record k point remaining p flags hlow hhigh hfits))
      constructor
      · intro hclaim
        exact exec_of_refused hf hproc (Nat.le_of_ble_eq_true rfl)
          (answered.trans (if_pos (Option.isSome_iff_ne_none.mpr hclaim)))
      · intro hclaim
        have hfree : ¬ (u.claim d).isSome = true := fun h => Option.isSome_iff_ne_none.mp h hclaim
        rw [exec_of_handled hf hproc (Nat.le_of_ble_eq_true rfl) (answered.trans (if_neg hfree))]
        exact congrArg Host.Outcome.next (State.placeReply_of_quiet s _ _ (fun v => v.setDescriptor d _) rfl rfl)
  · intro s tag descriptor hproc
    constructor
    · intro hbad
      refine exec_of_refused rfl hproc (Nat.le_of_ble_eq_true rfl) ?_
      change State.doDescriptorGet _ descriptor = _
      rw [State.doDescriptorGet, finOf_eq_none hbad]
    · rintro d rfl r bit
      rw [exec_of_read (i := .descriptorGet tag (byteOf d.val)) rfl hproc (Nat.le_of_ble_eq_true rfl)
        (State.doDescriptorGet_eq _ d), State.claimItems_eq]
      simp only [State.inDispatch_engine, State.inDispatch_claim, State.inDispatch_descriptor]
      rfl

end Sys2Proof.Machine
end

section
/-!
The source completion of a descriptor transfer (O49): the advanced descriptor's fields, and the steps of R110 behind it.
-/

namespace Sys2Proof.Machine

/-! ### The advanced descriptor (R110, steps 2 to 4) -/

/-- The count goes down by one, and that of a spent descriptor stays 0 (log entry 20). -/
theorem Descriptor.advance_remaining (r : Descriptor) : r.advance.remaining = BitVec.ofNat 8 (r.remaining.toNat - 1) := by
  change (if r.remaining = 0 then 0 else r.remaining - 1) = _
  split
  · rename_i h
    rw [h]
    rfl
  · bv_omega

theorem Descriptor.advance_remaining_eq_zero_iff (r : Descriptor) : r.advance.remaining = 0 ↔ r.remaining.toNat - 1 = 0 := by
  rw [r.advance_remaining]
  bv_omega

theorem Descriptor.wraps_iff (r : Descriptor) : r.wraps = true ↔
    r.advanceOffset = true ∧ 128 < r.wordOffset.val + r.perTransfer.toNat + r.perTransfer.toNat := by
  simp [Descriptor.wraps]

/-- The offset after a transfer whose words fit the half (R110, step 4). -/
theorem Descriptor.nextOffset_eq {r : Descriptor} (hpos : 1 ≤ r.perTransfer.toNat)
    (hfits : r.wordOffset.val + r.perTransfer.toNat ≤ 128) :
    r.nextOffset = if 128 < r.wordOffset.val + r.perTransfer.toNat + r.perTransfer.toNat then 0
      else Fin.ofNat 128 (r.wordOffset.val + r.perTransfer.toNat) := by
  unfold Descriptor.nextOffset
  split
  · rename_i h
    rw [if_neg (by omega)]
    exact Fin.ext (Nat.mod_eq_of_lt h.2).symm
  · rw [if_pos (by omega)]

theorem Descriptor.advance_eq {r : Descriptor} (hpos : 1 ≤ r.perTransfer.toNat)
    (hfits : r.wordOffset.val + r.perTransfer.toNat ≤ 128) :
    let moved := r.wordOffset.val + r.perTransfer.toNat
    r.advance = { r with
      remaining := BitVec.ofNat 8 (r.remaining.toNat - 1)
      point := if r.advancePoint then r.point + r.perTransfer.setWidth 16 else r.point
      wordOffset := if r.advanceOffset = false then r.wordOffset
        else if r.advanceOffset = true ∧ 128 < moved + r.perTransfer.toNat then 0 else Fin.ofNat 128 moved } := by
  intro moved
  rw [← r.advance_remaining]
  unfold Descriptor.advance
  rw [Descriptor.nextOffset_eq hpos hfits]
  cases r.advanceOffset <;> simp [moved]

/-! ### The steps of the completion (R110 to R113) -/

/-- A flip leaves every attention record. -/
theorem State.flip_attn (s : State) (e : Engine) (p : Fin 16) (c : FlipCause) (i : Fin 64) :
    (s.flip e p c).attn i = s.attn i := by
  obtain ⟨r, same, -⟩ := s.flip_records e p c
  exact same.attn i

/-- The state behind the wrap flip of a GOOD transfer: the descriptor has advanced, and a wrap has been flipped (R110, steps 2 to
4). -/
def State.transferred (s : State) (e : Engine) (d : Fin 32) : State :=
  if (s.descriptor d).wraps then
    (s.setDescriptor d (s.descriptor d).advance).flip e (s.descriptor d).pair (.descriptorWrap d)
  else s.setDescriptor d (s.descriptor d).advance

theorem State.transferred_attn (s : State) (e : Engine) (d : Fin 32) (i : Fin 64) : (s.transferred e d).attn i = s.attn i := by
  unfold State.transferred
  split
  · rw [State.flip_attn, State.setDescriptor_attn]
  · rw [State.setDescriptor_attn]

/-- An end action with its two entries written out (R112). -/
theorem State.endAction_eq (s : State) (i : Fin 64) (x : EndAction) : s.endAction i x = s.setAttn i { s.attn i with
    state := if x = .escalate then .escalated else .acking } := by
  cases x <;> rfl

/-- The completion behind the wrap flip: a spent descriptor gives its end action and its end flip (R110, step 5). -/
theorem State.completeTransfer_eq (s : State) (e : Engine) (i : Fin 64) (d : Fin 32) :
    let r := s.descriptor d
    let u := s.transferred e d
    let ended := if (s.attn i).state = .serving then u.setAttn i { s.attn i with
      state := if r.endAction = .escalate then .escalated else .acking } else u
    s.completeTransfer e i d =
      if r.remaining.toNat - 1 ≠ 0 then u else if r.flipAtEnd then ended.flip e r.pair (.descriptorEnd d) else ended := by
  intro r u ended
  have hended : (if (u.attn i).state = .serving then u.endAction i r.endAction else u) = ended := by
    rw [State.endAction_eq, s.transferred_attn e d i]
  rw [ite_not, ← hended]
  exact ite_congr (propext r.advance_remaining_eq_zero_iff) (fun _ => rfl) fun _ => rfl

/-- Settles O49: the descriptor's fields and the wrap by their equations, and the steps behind them in R110's order. -/
theorem transferUpdatesItsDescriptor : Obligations.TransferUpdatesItsDescriptor := by
  intro s e t d o hsource r moved wraps left u1 u2 ended
  have hcompletion : ∀ x, s.sourceCompletion e t x =
      (if x = .good then s.completeTransfer e t.subject d else s).setClaim d none := fun x => by
    rw [State.sourceCompletion, hsource]
  constructor
  · intro hbad
    rw [hcompletion, if_neg hbad]
  · intro hpos hfits
    have hadvanced : s.setDescriptor d r.advance = u1 := congrArg (s.setDescriptor d) (Descriptor.advance_eq hpos hfits)
    have htransferred : s.transferred e d = u2 := by
      unfold State.transferred
      rw [hadvanced]
      exact ite_congr (propext r.wraps_iff) (fun _ => rfl) fun _ => rfl
    have hcomplete := s.completeTransfer_eq e t.subject d
    rw [htransferred] at hcomplete
    rw [hcompletion, if_pos rfl]
    exact congrArg (State.setClaim · d none) hcomplete

end Sys2Proof.Machine
end

section
/-!
The capture and output pairs: a flip (O48), the requests that write a pair (O23, O25) and those that read one (O24).
-/

namespace Sys2Proof.Machine

/-! ### A flip (R126 to R129) -/

@[simp] theorem Half.other_other (h : Half) : h.other.other = h := by cases h <;> rfl

/-- The host has finished with its half when it is RELEASED in CAPTURE or COMMITTED in OUTPUT (R115). -/
theorem Pair.finished_iff (r : Pair) : r.finished = true ↔
    r.direction = .capture ∧ r.hostState = .released ∨ r.direction = .output ∧ r.hostState = .committed := by
  unfold Pair.finished
  cases r.direction <;> simp

theorem Pair.exchange_eq (r : Pair) (now : Stamp) : r.exchange now = { r with
    working := r.working.other, hostState := if r.direction = .capture then .unread else .editing
    sequence := r.sequence + 1, flipStamp := now, miss := false } := by
  unfold Pair.exchange
  cases r.direction <;> rfl

theorem Pair.exchange_hostHalf (r : Pair) (now : Stamp) : (r.exchange now).hostHalf = r.working := r.working.other_other

theorem State.flip_of_finished {s : State} {p : Fin 16} (h : (s.pair p).finished = true) (e : Engine) (cause : FlipCause) :
    s.flip e p cause = (s.setPair p ((s.pair p).exchange s.time)).raise (.pairFlipped p (s.pair p).direction cause e
      (s.pair p).working ((s.pair p).sequence + 1) (s.pair p).miss (s.pair p).captureStamp) := by
  rw [State.flip, if_pos h]
  dsimp only
  rw [Pair.exchange_hostHalf]
  rfl

theorem State.flip_of_not_finished {s : State} {p : Fin 16} (h : ¬ (s.pair p).finished = true) (e : Engine)
    (cause : FlipCause) : s.flip e p cause = s.setPair p { s.pair p with miss := true } := if_neg h

/-- Settles O48: the host has finished with its half or not. -/
theorem flipExchangesOrMisses : Obligations.FlipExchangesOrMisses := by
  intro s e p cause r done
  have hdone : r.finished = true ↔ done := r.finished_iff
  constructor
  · intro h
    rw [State.flip_of_finished (hdone.mpr h), Pair.exchange_eq]
  · intro h
    exact State.flip_of_not_finished (mt hdone.mp h) e cause

/-! ### Requests that write a pair -/

/-- An accepted request that writes one pair (R149, R150). -/
theorem exec_of_setPair {i : Instr} {f : Frame} {s : State} {p : Fin 16} {r : Pair} (hi : requestFrame i = some f)
    (hp : s.processing = none) (hl : f.payload.length ≤ 250)
    (hh : (s.inDispatch f).handle f = ((s.inDispatch f).setPair p r).ok []) :
    exec i s = .next ((s.setPair p r).replied f ⟨.ok, []⟩) := by
  rw [exec_of_handled hi hp hl hh]
  exact congrArg Host.Outcome.next (State.placeReply_of_quiet s f _ (State.setPair · p r) rfl rfl)

/-! ### PAIR-SET, PAIR-RELEASE and PAIR-COMMIT (R116, R120, R121) -/

theorem State.doPairSet_refuse (s : State) {pair direction : Byte} (h : 15 < pair.toNat ∨ 1 < direction.toNat) :
    s.doPairSet pair direction = s.refuse .badValue := by
  unfold State.doPairSet
  obtain h | h := h
  · rw [finOf_eq_none h]
  · rw [directionOf_eq_none h]
    cases finOf 16 pair <;> rfl

/-- PAIR-SET of a pair and a direction in range is answered by the engines (R116). -/
theorem State.doPairSet_eq (s : State) (p : Fin 16) (d : Direction) : s.doPairSet (byteOf p.val) d.code =
    if s.engineA.run = .stopped ∧ s.engineB.run = .stopped then (s.setPair p (.init d)).ok []
    else s.refuse .lineRunning := by
  rw [State.doPairSet, finOf_byteOf p (by omega), directionOf_code]
  simp only [EngineState.isStopped_iff]

theorem State.doPairRelease_refuse (s : State) {pair : Byte} (h : 15 < pair.toNat) :
    s.doPairRelease pair = s.refuse .badValue := by
  rw [State.doPairRelease, finOf_eq_none h]

theorem State.doPairRelease_eq (s : State) (p : Fin 16) : s.doPairRelease (byteOf p.val) =
    if (s.pair p).direction = .output then s.refuse .wrongDirection
    else (s.setPair p { s.pair p with hostState := .released }).ok [] := by
  rw [State.doPairRelease, finOf_byteOf p (by omega)]

theorem State.doPairCommit_refuse (s : State) {pair : Byte} (h : 15 < pair.toNat) :
    s.doPairCommit pair = s.refuse .badValue := by
  rw [State.doPairCommit, finOf_eq_none h]

theorem State.doPairCommit_eq (s : State) (p : Fin 16) : s.doPairCommit (byteOf p.val) =
    if (s.pair p).direction = .capture then s.refuse .wrongDirection
    else (s.setPair p { s.pair p with hostState := .committed }).ok [] := by
  rw [State.doPairCommit, finOf_byteOf p (by omega)]

/-- Settles O23: PAIR-SET by the engines' states, PAIR-RELEASE and PAIR-COMMIT by the pair's direction. -/
theorem pairIsInitialisedAndHandedBack : Obligations.PairIsInitialisedAndHandedBack := by
  constructor
  · intro s tag pair direction hproc f
    constructor
    · intro hbad
      exact exec_of_refused (f := f) rfl hproc (Nat.le_of_ble_eq_true rfl) (State.doPairSet_refuse _ hbad)
    · rintro p d rfl rfl
      have handled := (s.inDispatch f).doPairSet_eq p d
      rw [State.inDispatch_engineA, State.inDispatch_engineB] at handled
      constructor
      · intro hrun
        refine exec_of_refused (f := f) rfl hproc (Nat.le_of_ble_eq_true rfl) (handled.trans (if_neg ?_))
        exact fun ⟨ha, hb⟩ => hrun.elim (· ha) (· hb)
      · intro ha hb
        rw [← Pair.init_eq]
        exact exec_of_setPair (f := f) rfl hproc (Nat.le_of_ble_eq_true rfl) (handled.trans (if_pos ⟨ha, hb⟩))
  · intro s tag pair hproc
    constructor
    · intro hbad
      exact ⟨exec_of_refused rfl hproc (Nat.le_of_ble_eq_true rfl) (State.doPairRelease_refuse _ hbad),
        exec_of_refused rfl hproc (Nat.le_of_ble_eq_true rfl) (State.doPairCommit_refuse _ hbad)⟩
    · rintro p rfl
      have released := fun f => (s.inDispatch f).doPairRelease_eq p
      have committed := fun f => (s.inDispatch f).doPairCommit_eq p
      simp only [State.inDispatch_pair] at released committed
      constructor
      · intro hout
        have hcapture : (s.pair p).direction ≠ .capture := by rw [hout]; decide
        exact ⟨exec_of_refused rfl hproc (Nat.le_of_ble_eq_true rfl) ((released _).trans (if_pos hout)),
          exec_of_setPair rfl hproc (Nat.le_of_ble_eq_true rfl) ((committed _).trans (if_neg hcapture))⟩
      · intro hcapture
        have hout : (s.pair p).direction ≠ .output := by rw [hcapture]; decide
        exact ⟨exec_of_refused rfl hproc (Nat.le_of_ble_eq_true rfl) ((committed _).trans (if_pos hcapture)),
          exec_of_setPair rfl hproc (Nat.le_of_ble_eq_true rfl) ((released _).trans (if_neg hout))⟩

/-! ### PAIR-GET and PAIR-READ (R117, R118) -/

theorem State.doPairGet_refuse (s : State) {pair : Byte} (h : 15 < pair.toNat) : s.doPairGet pair = s.refuse .badValue := by
  rw [State.doPairGet, finOf_eq_none h]

theorem State.doPairGet_eq (s : State) (p : Fin 16) :
    let r := s.pair p
    s.doPairGet (byteOf p.val) = s.ok ([r.direction.code, r.working.code, r.working.other.code, r.hostState.code] ++
      wordBytes r.sequence ++ [if r.miss then 1 else 0] ++ stampBytes r.flipStamp ++ stampBytes r.captureStamp) := by
  intro r
  rw [State.doPairGet, finOf_byteOf p (by omega)]
  simp only [boolByte_eq, List.append_assoc, List.singleton_append]
  rfl

/-- A run of words inside a half, as a part of its list. -/
theorem readWords_eq (v : Vector Word 128) {start n : Nat} (h : start + n ≤ 128) :
    readWords v start n = (v.toList.drop start).take n := by
  refine List.ext_getElem (by simp [readWords]; omega) fun k hk _ => ?_
  have hin : start + k < 128 := by simp [readWords] at hk; omega
  simp [readWords, hin]

/-- The words of the half that the host holds (R115). -/
theorem Pair.half_hostHalf (r : Pair) : r.half r.hostHalf = match r.working with
    | .zero => r.half1
    | .one => r.half0 := by
  unfold Pair.hostHalf
  cases r.working <;> rfl

theorem State.doPairRead_refuse (s : State) {pair start count : Byte}
    (h : 15 < pair.toNat ∨ 127 < start.toNat ∨ count = 0 ∨ 120 < count.toNat ∨ 128 < start.toNat + count.toNat) :
    s.doPairRead pair start count = s.refuse .badValue := by
  unfold State.doPairRead
  split
  · rename_i p k hp hk
    refine if_neg fun ⟨hlow, hhigh, hfits⟩ => ?_
    have hpair := lt_of_finOf hp
    have hstart : start.toNat = k.val := by
      rw [byteOf_of_finOf hk, toNat_byteOf]
      omega
    rcases h with h | h | rfl | h | h
    · omega
    · omega
    · exact absurd hlow (by decide)
    · omega
    · omega
  · rfl

theorem State.doPairRead_eq (s : State) (p : Fin 16) {start count : Byte} (hlow : count ≠ 0) (hhigh : count.toNat ≤ 120)
    (hfits : start.toNat + count.toNat ≤ 128) :
    let r := s.pair p
    s.doPairRead (byteOf p.val) start count = s.ok ([r.working.other.code, r.hostState.code] ++ wordBytes r.sequence ++
      wordsBytes (((r.half r.hostHalf).toList.drop start.toNat).take count.toNat)) := by
  intro r
  have hpos : 1 ≤ count.toNat := Nat.pos_of_ne_zero fun h => hlow (BitVec.eq_of_toNat_eq h)
  have hstart : finOf 128 start = some ⟨start.toNat, by omega⟩ := dif_pos _
  rw [State.doPairRead, finOf_byteOf p (by omega), hstart]
  dsimp only
  rw [if_pos ⟨hpos, hhigh, hfits⟩, readWords_eq _ hfits]
  rfl

/-- Settles O24: the record's items, and the host half's words from the start word on. -/
theorem pairRecordAndHostHalfAreRead : Obligations.PairRecordAndHostHalfAreRead := by
  constructor
  · intro s tag pair hproc
    constructor
    · intro hbad
      exact exec_of_refused rfl hproc (Nat.le_of_ble_eq_true rfl) (State.doPairGet_refuse _ hbad)
    · rintro p rfl r
      exact exec_of_read rfl hproc (Nat.le_of_ble_eq_true rfl) (State.doPairGet_eq _ p)
  · intro s tag pair start count hproc f
    constructor
    · intro hbad
      exact exec_of_refused (f := f) rfl hproc (Nat.le_of_ble_eq_true rfl) (State.doPairRead_refuse _ hbad)
    · rintro p rfl hlow hhigh hfits r half
      have hhalf : r.half r.hostHalf = half := r.half_hostHalf
      rw [← hhalf]
      exact exec_of_read (f := f) rfl hproc (Nat.le_of_ble_eq_true rfl) (State.doPairRead_eq _ p hlow hhigh hfits)

/-! ### PAIR-WRITE (R119) -/

/-- A half with words written, word by word (R119, R122). -/
theorem writeWords_eq (v : Vector Word 128) (start : Nat) (ws : List Word) : writeWords v start ws =
    Vector.ofFn fun i => if start ≤ i.val then (ws[i.val - start]?).getD v[i] else v[i] := by
  refine Vector.ext fun k hk => ?_
  rw [Vector.getElem_ofFn]
  exact getElem_writeWords v start ws ⟨k, hk⟩

/-- The host half written: the half that is not the working half. -/
theorem Pair.setHalf_hostHalf (r : Pair) (put : Vector Word 128 → Vector Word 128) :
    r.setHalf r.hostHalf (put (r.half r.hostHalf)) = match r.working with
      | .zero => { r with half1 := put r.half1 }
      | .one => { r with half0 := put r.half0 } := by
  obtain ⟨direction, working⟩ := r
  cases working <;> rfl

/-- The owner of PAIR-WRITE is handed the words of the frame, when they are 1 to 120 (11.4). -/
theorem State.handlePairWrite_wordsBytes (s : State) (pair start : Byte) (words : List Word) :
    s.handlePairWrite pair start (wordsBytes words) =
      if 1 ≤ words.length ∧ words.length ≤ 120 then s.doPairWrite pair start words else s.refuse .badLength := by
  rw [State.handlePairWrite, wordsOf_wordsBytes]

theorem State.doPairWrite_refuse (s : State) {pair start : Byte} {words : List Word}
    (h : 15 < pair.toNat ∨ 127 < start.toNat ∨ 128 < start.toNat + words.length) :
    s.doPairWrite pair start words = s.refuse .badValue := by
  unfold State.doPairWrite
  split
  · rename_i p k hp hk
    have hpair := lt_of_finOf hp
    have hstart : start.toNat = k.val := by
      rw [byteOf_of_finOf hk, toNat_byteOf]
      omega
    exact if_pos (by omega)
  · rfl

/-- PAIR-WRITE of a run inside a pair is answered by the pair's direction and host half state (R119). -/
theorem State.doPairWrite_eq (s : State) (p : Fin 16) {start : Byte} {words : List Word} (hstart : start.toNat ≤ 127)
    (hfits : start.toNat + words.length ≤ 128) :
    let r := s.pair p
    s.doPairWrite (byteOf p.val) start words =
      if r.direction = .capture then s.refuse .wrongDirection
      else if r.hostState = .committed then s.refuse .pairCommitted
      else (s.setPair p (r.setHalf r.hostHalf (writeWords (r.half r.hostHalf) start.toNat words))).ok [] := by
  intro r
  have hfin : finOf 128 start = some ⟨start.toNat, by omega⟩ := dif_pos _
  rw [State.doPairWrite, finOf_byteOf p (by omega), hfin]
  exact if_neg (Nat.not_lt.mpr hfits)

/-- Settles O25: the length, the values, the direction and the host half state in R119's order, and the host half written. -/
theorem pairWriteWritesTheHostHalf : Obligations.PairWriteWritesTheHostHalf := by
  intro s tag pair start words hproc hlen f c
  have hpayload : f.payload.length ≤ 250 := by
    simp only [f, List.length_append, List.length_cons, List.length_nil, length_wordsBytes]
    omega
  have handled := (s.inDispatch f).handlePairWrite_wordsBytes pair start words
  constructor
  · intro hbad
    refine exec_of_refused (f := f) rfl hproc hpayload (handled.trans (if_neg fun ⟨hlow, hhigh⟩ => ?_))
    rcases hbad with rfl | hlong
    · exact absurd hlow (by decide)
    · omega
  · intro hsome hshort
    have hwritten := handled.trans (if_pos ⟨List.length_pos_iff.mpr hsome, hshort⟩)
    constructor
    · intro hbad
      exact exec_of_refused (f := f) rfl hproc hpayload (hwritten.trans (State.doPairWrite_refuse _ hbad))
    · rintro p rfl hstart hfits r put
      have answered := hwritten.trans (State.doPairWrite_eq _ p hstart hfits)
      rw [State.inDispatch_pair] at answered
      have hnot : r.direction = .output → ¬ r.direction = .capture := fun h => by rw [h]; decide
      refine ⟨fun hcapture => ?_, fun hout hcommitted => ?_, fun hout hfree => ?_⟩
      · exact exec_of_refused (f := f) rfl hproc hpayload (answered.trans (if_pos hcapture))
      · exact exec_of_refused (f := f) rfl hproc hpayload
          (answered.trans ((if_neg (hnot hout)).trans (if_pos hcommitted)))
      · have hput : ∀ v, writeWords v start.toNat words = put v := fun v => writeWords_eq v start.toNat words
        rw [if_neg (hnot hout), if_neg hfree, hput, Pair.setHalf_hostHalf] at answered
        exact exec_of_setPair (f := f) rfl hproc hpayload answered

end Sys2Proof.Machine
end

section
/-!
The service stack: TAKE (O27), and DONE with its re-offer check (O28).
-/

namespace Sys2Proof.Machine

/-! ### The head of the escalated set (R133) -/

theorem State.escalatedHead_of_isHead {s : State} {i : Fin 64} (h : s.IsHead i) : s.escalatedHead = some i := by
  obtain ⟨hi, hbest⟩ := h
  refine highest_eq_some (decide_eq_true hi) fun j hj => ?_
  exact (hbest j (of_decide_eq_true hj)).imp_right (.imp_left (congrArg Fin.val))

/-- TAKE and the re-offer check both ask whether the head is above the service level; it is not when no station of the set is. -/
theorem State.escalatedHead_not_above {s : State}
    (h : ∀ i : Fin 64, (s.attn i).state = .escalated → (s.attn i).level ≤ s.serviceLevel) {i : Fin 64}
    (hi : s.escalatedHead = some i) : ¬ s.serviceLevel < (s.attn i).level :=
  Fin.not_lt.mpr (h i (of_decide_eq_true (highest_spec hi)))

/-- The count of escalated records behind a station's removal from the set (R133). -/
theorem State.countP_escalated_setAttn_of_not (s : State) (i : Fin 64) {r : Attention} (h : r.state ≠ .escalated) :
    ((List.finRange 64).countP fun j => decide (((s.setAttn i r).attn j).state = .escalated)) =
      (List.finRange 64).countP fun j => decide (j ≠ i ∧ (s.attn j).state = .escalated) := by
  refine congrArg (List.countP · _) (funext fun j => decide_eq_decide.mpr ?_)
  by_cases hj : j = i
  · subst hj; simp [h]
  · rw [State.setAttn_attn_other s r hj]
    exact (and_iff_right hj).symm

/-! ### TAKE (R136, R137) -/

theorem State.doTake_of_full {s : State} (h : 4 ≤ s.stack.length) : s.doTake = s.refuse .stackFull := if_pos h

theorem State.doTake_of_none {s : State} (hroom : s.stack.length < 4)
    (h : ∀ i : Fin 64, (s.attn i).state = .escalated → (s.attn i).level ≤ s.serviceLevel) : s.doTake = s.refuse .none := by
  refine (if_neg (Nat.not_le.mpr hroom)).trans ?_
  cases hhead : s.escalatedHead with
  | none => rfl
  | some i => exact if_neg (State.escalatedHead_not_above h hhead)

theorem State.doTake_of_isHead {s : State} {i : Fin 64} (hroom : s.stack.length < 4) (hi : s.IsHead i)
    (habove : s.serviceLevel < (s.attn i).level) : s.doTake = (s.pushStation i).ok ((s.pushStation i).takeItems i) := by
  refine (if_neg (Nat.not_le.mpr hroom)).trans ?_
  rw [State.escalatedHead_of_isHead hi]
  exact if_pos habove

theorem EndAction.code_eq (x : EndAction) : x.code = if x = .acknowledge then 1 else 0 := by cases x <;> rfl

theorem ServiceMode.code_eq (m : ServiceMode) : m.code = if m = .descriptor then 1 else 0 := by cases m <;> rfl

/-- The descriptor summary with its items written out (11.4). -/
theorem State.descriptorSummary_eq (s : State) (i : Fin 64) : s.descriptorSummary i =
    let st := s.station i
    let r := s.descriptor st.config.descriptor
    match st.config.mode with
    | .host => [0]
    | .descriptor => [1, byteOf st.config.descriptor.val, r.kind.code] ++ wordBytes r.point ++
        [r.perTransfer, r.remaining, byteOf r.pair.val, byteOf r.wordOffset.val,
          if r.endAction = .acknowledge then 1 else 0, claimCode (s.claim st.config.descriptor)] := by
  dsimp only
  rw [← EndAction.code_eq]
  rfl

/-- The items of a TAKE reply, by the state before the TAKE: the level and class are kept, the depth is one more, and the
station taken is no longer counted (R137). -/
theorem State.takeItems_pushStation (s : State) (i : Fin 64) : (s.pushStation i).takeItems i =
    let st := s.station i
    [byteOf i.val, byteOf (s.attn i).level.val, byteOf (s.attn i).cls.val,
        if st.config.mode = .descriptor then 1 else 0, st.health.code, sideCode st.line, st.last.toByte] ++
      stampBytes st.lastContact ++ [byteOf (s.stack.length + 1),
        byteOf ((List.finRange 64).countP fun j => decide (j ≠ i ∧ (s.attn j).state = .escalated))] ++
      s.descriptorSummary i := by
  have hattn : (s.pushStation i).attn i = { s.attn i with state := .held } := State.setAttn_attn _ _ _
  have hcount : (s.pushStation i).escalatedCount = _ :=
    s.countP_escalated_setAttn_of_not i (r := { s.attn i with state := .held }) (by simp)
  dsimp only [State.takeItems]
  rw [hattn, hcount, ServiceMode.code_eq]
  rfl

/-- Settles O27: the checks in R136's order, and the accepted TAKE by its one push. -/
theorem takeHoldsTheHead : Obligations.TakeHoldsTheHead := by
  intro s tag hproc f
  refine ⟨fun hfull => ?_, fun hroom hnone => ?_, fun i hroom hi habove => ?_⟩
  · exact exec_of_refused (f := f) rfl hproc (Nat.le_of_ble_eq_true rfl) (State.doTake_of_full hfull)
  · exact exec_of_refused (f := f) rfl hproc (Nat.le_of_ble_eq_true rfl) (State.doTake_of_none hroom hnone)
  · have handled : (s.inDispatch f).handle f = _ := State.doTake_of_isHead (s := s.inDispatch f) hroom hi habove
    rw [State.takeItems_pushStation, State.descriptorSummary_eq] at handled
    rw [exec_of_handled (f := f) rfl hproc (Nat.le_of_ble_eq_true rfl) handled]
    exact congrArg Host.Outcome.next (State.placeReply_of_quiet s f _ (State.pushStation · i) rfl rfl)

/-! ### DONE (R139 to R141) -/

/-- The record of a station given back: ACKING with its level and class, or CLEAR when the station is OFFLINE (R140). -/
def State.releasedRecord (s : State) (i : Fin 64) : Attention :=
  if (s.station i).health = .offline then ⟨.clear, 0, 0⟩ else { s.attn i with state := .acking }

/-- The changes of an accepted DONE (R140): the record leaves HELD, and the entries below the top remain. -/
def State.popStation (s : State) (i : Fin 64) (rest : List StackEntry) : State :=
  { s.setAttn i (s.releasedRecord i) with stack := rest }

theorem State.releaseStation_eq_popStation (s : State) (i : Fin 64) (rest : List StackEntry) :
    ({ s with stack := rest } : State).releaseStation i = s.popStation i rest := by
  unfold State.releaseStation State.popStation State.releasedRecord
  by_cases h : (s.station i).health = .offline
  · rw [if_pos h]
    exact if_pos h
  · rw [if_neg h]
    exact if_neg h

theorem State.doDone_of_empty {s : State} (h : s.stack = []) : s.doDone = s.refuse .stackEmpty := by
  rw [State.doDone, h]

theorem State.doDone_of_cons {s : State} {x : StackEntry} {rest : List StackEntry} (h : s.stack = x :: rest) :
    s.doDone = (s.popStation x.station rest).reoffer.ok ((s.popStation x.station rest).doneItems x.station) := by
  rw [State.doDone, h]
  dsimp only
  rw [State.releaseStation_eq_popStation]

/-- The items of a DONE reply (R140): the record's state as DONE left it, and the rest read from the state it left. -/
theorem State.doneItems_popStation (s : State) (i : Fin 64) (rest : List StackEntry) :
    (s.popStation i rest).doneItems i = [byteOf i.val, (s.releasedRecord i).state.code, byteOf rest.length,
      byteOf (s.popStation i rest).serviceLevel.val, byteOf (s.popStation i rest).escalatedCount] := by
  have hattn : (s.popStation i rest).attn i = s.releasedRecord i := State.setAttn_attn _ _ _
  rw [State.doneItems, hattn]
  rfl

theorem State.reoffer_of_none {s : State}
    (h : ∀ i : Fin 64, (s.attn i).state = .escalated → (s.attn i).level ≤ s.serviceLevel) : s.reoffer = s := by
  unfold State.reoffer
  cases hhead : s.escalatedHead with
  | none => rfl
  | some i => exact if_neg (State.escalatedHead_not_above h hhead)

theorem State.reoffer_of_isHead {s : State} {i : Fin 64} (hi : s.IsHead i) (habove : s.serviceLevel < (s.attn i).level) :
    s.reoffer = s.raiseAll [s.escalationNotice i none] := by
  rw [State.reoffer, State.escalatedHead_of_isHead hi]
  exact if_pos habove

/-- Settles O28: the empty stack first, then the pop, and the re-offer check by the head of the set that it leaves. -/
theorem doneGivesBackTheTop : Obligations.DoneGivesBackTheTop := by
  intro s tag hproc f
  refine ⟨fun hempty => ?_, fun x rest hstack => ?_⟩
  · exact exec_of_refused (f := f) rfl hproc (Nat.le_of_ble_eq_true rfl) (State.doDone_of_empty hempty)
  · let v := (s.inDispatch f).popStation x.station rest
    have handled : (s.inDispatch f).handle f = v.reoffer.ok (v.doneItems x.station) := State.doDone_of_cons hstack
    rw [State.doneItems_popStation] at handled
    refine ⟨fun hnone => ?_, fun j hj habove => ?_⟩
    · rw [State.reoffer_of_none (s := v) hnone] at handled
      rw [exec_of_handled (f := f) rfl hproc (Nat.le_of_ble_eq_true rfl) handled]
      exact congrArg Host.Outcome.next (State.placeReply_of_quiet s f _ (State.popStation · x.station rest) rfl rfl)
    · rw [State.reoffer_of_isHead (s := v) hj habove] at handled
      rw [exec_of_handled (f := f) rfl hproc (Nat.le_of_ble_eq_true rfl) handled]
      rfl

end Sys2Proof.Machine
end

section
/-!
The queue of commands (O1), the part-wide requests that report or set what stands (O11, O12), and the cancel of a store
operation (O30).
-/

namespace Sys2Proof.Machine

/-! ### A step (R157, R51) -/

/-- Settles O1: a step by its two cases, the clock by its fields, and the records by their definitions. -/
theorem stepRunsFrontCommandOrCountsTime : Obligations.StepRunsFrontCommandOrCountsTime := by
  refine ⟨fun s c rest h => ?_, fun s h => ?_, fun _ _ => rfl, fun s => ?_⟩
  · rw [step, h]
  · rw [step, h]
  · exact ⟨rfl, rfl, rfl, rfl, fun _ => ⟨rfl, rfl⟩, fun _ => ⟨rfl, rfl⟩, fun _ _ => ⟨rfl, rfl⟩, fun _ _ => ⟨rfl, rfl⟩,
      fun _ _ => ⟨rfl, rfl⟩, fun _ _ => ⟨rfl, rfl⟩, fun _ _ => ⟨rfl, rfl⟩⟩

/-! ### The part as it stands (R87, R155, R156) -/

/-- A request whose effect leaves the link alone, and stands beside a dispatch's marks, answers OK. -/
theorem exec_of_quiet {i : Instr} {f : Frame} {s : State} {items : List Byte} (g : State → State) (hi : requestFrame i = some f)
    (hp : s.processing = none) (hl : f.payload.length ≤ 250) (hh : (s.inDispatch f).handle f = (g (s.inDispatch f)).ok items)
    (hg : g (s.inDispatch f) = { g s with rx := .hunting, tx := (s.inDispatch f).tx }) (ht : (g s).tx = s.tx) :
    exec i s = .next ((g s).replied f ⟨.ok, items⟩) := by
  rw [exec_of_handled hi hp hl hh]
  exact congrArg Host.Outcome.next (State.placeReply_of_quiet s f _ g hg ht)

theorem State.statusItems_eq (s : State) : s.statusItems =
    [s.arrangement.code, s.engineA.run.code, s.engineB.run.code, match s.stack with
      | [] => 0
      | x :: _ => byteOf x.level.val, byteOf s.stack.length,
      byteOf ((List.finRange 64).countP fun i => decide ((s.attn i).state = .escalated)),
      if s.overrun then 1 else 0, s.imageState.code, s.startSource.code, s.store.code] ++ stampBytes s.time := by
  rw [State.statusItems, State.serviceLevel, boolByte_eq]
  cases s.stack <;> rfl

/-- Settles O11: each report is a read of the part, and GET-STATUS clears the overrun flag besides. -/
theorem partIsReportedAsItStands : Obligations.PartIsReportedAsItStands := by
  refine ⟨fun s tag hproc => ?_, fun s tag hproc => ?_, fun s tag hproc => ?_⟩
  · exact exec_of_read (f := ⟨0x01, tag, []⟩) rfl hproc (Nat.zero_le _) rfl
  · have reported := exec_of_quiet (i := .getStatus tag) (f := ⟨0x02, tag, []⟩) (s := s) (items := s.statusItems)
      (fun u => { u with overrun := false }) rfl hproc (Nat.zero_le _) rfl rfl rfl
    rw [State.statusItems_eq] at reported
    exact reported
  · exact exec_of_read (f := ⟨0x06, tag, []⟩) rfl hproc (Nat.zero_le _) rfl

/-! ### TIME-SET and RESTART (R157, R158) -/

/-- TIME-SET takes the value that its four bytes carry. -/
theorem State.handle_timeSet (s : State) (tag : Byte) (value : Stamp) :
    s.handle ⟨0x04, tag, stampBytes value⟩ = s.doTimeSet value :=
  congrArg s.doTimeSet (stampOf_stampBytes value)

/-- Settles O12: TIME-SET writes the time tag; RESTART changes nothing, and the end of its reply is the reset. -/
theorem timeIsSetAndRestartIsTaken : Obligations.TimeIsSetAndRestartIsTaken := by
  refine ⟨fun s tag value hproc => ?_, fun s tag => ⟨fun hproc => ?_, fun r us hproc htx => ?_⟩⟩
  · exact exec_of_quiet (f := ⟨0x04, tag, stampBytes value⟩) (fun u => { u with time := value }) rfl hproc
      (Nat.le_of_ble_eq_true rfl) (State.handle_timeSet _ _ _) rfl rfl
  · exact exec_of_read (f := ⟨0x03, tag, []⟩) rfl hproc (Nat.zero_le _) rfl
  · show execReplySent s = _
    rw [execReplySent, htx]
    exact congrArg Host.Outcome.next (State.replyEnds_restart hproc)

/-! ### STORE-CANCEL and STORE_WP (R165) -/

/-- What a cancel makes of a state that the operation in progress stands in: the controller is IDLE, the image INVALID, and the
marker page left by log entry 21. -/
def State.withStoreEnded (s u : State) : State :=
  { u with
    store := .idle, imageState := .invalid
    region := match s.store with
      | .marking _ _ true => u.region.beginProgram 0
      | _ => u.region }

theorem State.cancelStore_eq (s u : State) (byPin : Bool) (h : u.store = s.store) : u.cancelStore byPin =
    (s.withStoreEnded u).raise (.storeResult s.store.isSave (.cancelled s.store.code byPin) .invalid) := by
  rw [State.cancelStore, State.endStore, State.cancelledRegion, State.withStoreEnded, h]
  cases s.store with
  | marking m again complete => cases complete <;> rfl
  | _ => rfl

/-- An operation in progress is a save unless it is STORE-ERASE's (R162, R164). -/
theorem Store.isSave_eq (x : Store) : x ≠ .idle → x.isSave = match x with
    | .erasing .erase _ => false
    | _ => true := by
  intro h
  cases x with
  | idle => exact absurd rfl h
  | erasing op block => cases op <;> rfl
  | _ => rfl

/-- The step that a cancel names (R165, R166). -/
theorem Store.code_eq (x : Store) : x ≠ .idle → x.code = match x with
    | .programming _ _ _ _ => 2
    | .marking _ _ _ => 3
    | _ => 1 := by
  intro h
  cases x with
  | idle => exact absurd rfl h
  | _ => rfl

/-- Settles O30: the controller IDLE or not, at the request and at the pin; a cancelled operation ends in one way. -/
theorem storeCancelEndsTheOperation : Obligations.StoreCancelEndsTheOperation := by
  intro s tag v l1 l0 f ended isSave step
  have cancels : ∀ (u : State) (byPin : Bool), u.store = s.store → s.store ≠ .idle →
      u.cancelStore byPin = (ended u).raise (.storeResult isSave (.cancelled step byPin) .invalid) := fun u byPin hu hbusy => by
    rw [State.cancelStore_eq s u byPin hu, Store.isSave_eq _ hbusy, Store.code_eq _ hbusy]
    rfl
  refine ⟨fun hproc hidle => ?_, fun hproc hbusy => ?_, ?_, Region.holdsMarker_beginProgram⟩
  · exact exec_of_refused (f := f) rfl hproc (Nat.zero_le _) (if_pos hidle)
  · have handled : (s.inDispatch f).handle f = ((s.inDispatch f).cancelStore false).ok [] := if_neg hbusy
    rw [cancels (s.inDispatch f) false rfl hbusy] at handled
    exact exec_of_handled (f := f) rfl hproc (Nat.zero_le _) handled
  · show execStoreWpAsserted ⟨v, l1, l0⟩ s = _
    rw [execStoreWpAsserted]
    by_cases hcancels : v = .low ∧ s.storeWp = .high ∧ s.store ≠ .idle
    · rw [if_pos hcancels, if_pos hcancels]
      obtain ⟨rfl, -, hbusy⟩ := hcancels
      exact congrArg Host.Outcome.next (cancels { s with storeWp := .low, lr1 := l1, lr0 := l0 } true rfl hbusy)
    · rw [if_neg hcancels, if_neg hcancels]

end Sys2Proof.Machine
end

section
/-!
What a request can do, whatever it is (O3, O10): it is refused and changes nothing, or it is accepted and leaves the waiting
commands, the receiver and the held request alone.
-/

namespace Sys2Proof.Machine

/-! ### The fields that no request changes -/

/-- The fields that the work of a request leaves alone, whatever it does. -/
structure LinkFrame (s t : State) : Prop where
  pending : t.pending = s.pending
  rx : t.rx = s.rx
  held : t.held = s.held

namespace LinkFrame

theorem refl (s : State) : LinkFrame s s := ⟨rfl, rfl, rfl⟩

theorem trans {s t u : State} (h : LinkFrame s t) (k : LinkFrame t u) : LinkFrame s u :=
  ⟨k.pending.trans h.pending, k.rx.trans h.rx, k.held.trans h.held⟩

theorem of_engine {s t : State} (h : EngineFrame s t) : LinkFrame s t := ⟨h.pending, h.rx, h.held⟩

theorem of_quiet {s t : State} (hp : t.pending = s.pending := by rfl) (hr : t.rx = s.rx := by rfl)
    (hh : t.held = s.held := by rfl) : LinkFrame s t := ⟨hp, hr, hh⟩

theorem raise (s : State) (n : Notice) : LinkFrame s (s.raise n) := of_engine (.raise s n)

theorem setAttn (s : State) (i : Fin 64) (r : Attention) : LinkFrame s (s.setAttn i r) := of_quiet

theorem withEngine (s : State) (e : Engine) (g : EngineState → EngineState) : LinkFrame s (s.withEngine e g) :=
  of_engine (.withEngine s e g)

theorem ite {s : State} {c : Prop} [Decidable c] {t u : State} (h : LinkFrame s t) (k : LinkFrame s u) :
    LinkFrame s (if c then t else u) := by split <;> assumption

/-! ### Operations of the requests -/

theorem maskRecord (s : State) (i : Fin 64) : LinkFrame s (s.maskRecord i) := by
  unfold State.maskRecord
  exact ite ((setAttn _ _ _).trans (of_engine (.handOver _ _ _))) (refl _)

theorem maskSet (s : State) : LinkFrame s s.maskSet := by
  have folded : ∀ (xs : List (Fin 64)) (u : State), LinkFrame u (xs.foldl State.maskRecord u) := fun xs => by
    induction xs with
    | nil => exact refl
    | cons i xs ih => exact fun u => (maskRecord u i).trans (ih _)
  exact folded _ s

theorem reconfigure (s : State) (i : Fin 64) : LinkFrame s (s.reconfigure i) := by
  rw [State.reconfigure_eq]
  dsimp only
  split
  · exact setAttn _ _ _
  · exact ite (ite ((setAttn _ _ _).trans (of_engine (.handOver _ _ _))) (setAttn _ _ _)) (refl s)

theorem rearrange (s : State) (x : Arrangement) : LinkFrame s (s.rearrange x) := by
  rw [State.rearrange_eq]
  exact trans (t := s.rearranged x _) of_quiet (of_engine (.raiseAll _ _))

theorem withShadow (s : State) (e : Engine) (f : Bank → Bank) : LinkFrame s (s.withShadow e f) := withEngine _ _ _

theorem reoffer (s : State) : LinkFrame s s.reoffer := by
  unfold State.reoffer
  split
  · exact ite (raise _ _) (refl _)
  · exact refl s

theorem releaseStation (s : State) (i : Fin 64) : LinkFrame s (s.releaseStation i) := by
  unfold State.releaseStation
  exact ite (setAttn _ _ _) (setAttn _ _ _)

theorem beginStore (s : State) (op : StoreOp) : LinkFrame s (s.beginStore op) := by
  unfold State.beginStore State.beginErase
  exact of_quiet

theorem endStore (s : State) (save : Bool) (o : StoreOutcome) (im : ImageState) : LinkFrame s (s.endStore save o im) :=
  trans (t := { s with store := .idle, imageState := im }) of_quiet (raise _ _)

theorem cancelStore (s : State) (byPin : Bool) : LinkFrame s (s.cancelStore byPin) :=
  trans (t := { s with region := s.cancelledRegion }) of_quiet (endStore _ _ _ _)

end LinkFrame

/-! ### A request's answer -/

/-- What a request may be answered: it is refused, and the state is as it was; or it is accepted. -/
def Answers (s : State) (h : Handled) : Prop :=
  (∃ r, h = s.refuse r) ∨ LinkFrame s h.state ∧ (h.reply.result = .ok ∨ h.reply.result = .accepted)

namespace Answers
variable {s : State}

theorem refused (s : State) (r : ResultCode) : Answers s (s.refuse r) := .inl ⟨r, rfl⟩

theorem ok {t : State} (h : LinkFrame s t) (items : List Byte) : Answers s (t.ok items) := .inr ⟨h, .inl rfl⟩

theorem accepted {t : State} (h : LinkFrame s t) (items : List Byte) : Answers s (t.accepted items) := .inr ⟨h, .inr rfl⟩

/-- A request that reads the part. -/
theorem read (s : State) (items : List Byte) : Answers s (s.ok items) := ok (.refl s) items

theorem ite {c : Prop} [Decidable c] {h k : Handled} (hh : Answers s h) (hk : Answers s k) :
    Answers s (if c then h else k) := by split <;> assumption

/-- Whatever the answer, the waiting commands, the receiver and the held request are left. -/
theorem frame {h : Handled} (ha : Answers s h) : LinkFrame s h.state := by
  obtain ⟨r, rfl⟩ | ⟨hframe, -⟩ := ha
  · exact .refl s
  · exact hframe

/-- A result that is neither OK nor ACCEPTED is a refusal's (R149). -/
theorem eq_refuse {h : Handled} (ha : Answers s h) (hok : h.reply.result ≠ .ok) (hacc : h.reply.result ≠ .accepted) :
    h = s.refuse h.reply.result := by
  obtain ⟨r, rfl⟩ | ⟨-, hr | hr⟩ := ha
  · rfl
  · exact absurd hr hok
  · exact absurd hr hacc

/-! ### Part, ports and stations -/

theorem doPartSet (s : State) (m d n : Byte) : Answers s (s.doPartSet m d n) := by
  unfold State.doPartSet
  split
  · rename_i m d _ _
    have written : LinkFrame s { s with mask := m, demandLevel := d, enables := .ofByte n } := .of_quiet
    exact ok (.ite written (written.trans (.maskSet _))) _
  · exact refused s _

theorem doArrange (s : State) (x : Byte) : Answers s (s.doArrange x) := by
  unfold State.doArrange
  split
  · exact ite (ite (refused s _) (ok (.rearrange _ _) _)) (refused s _)
  · exact refused s _

theorem doPortSet (s : State) (p : Byte) (l : List Byte) : Answers s (s.doPortSet p l) := by
  unfold State.doPortSet
  split
  · exact ite (ok (.of_engine (.withPort _ _ _)) _) (refused s _)
  · exact refused s _

theorem doPortGet (s : State) (p : Byte) : Answers s (s.doPortGet p) := by
  unfold State.doPortGet
  split
  · exact read s _
  · exact refused s _

theorem doStationSet (s : State) (i : Byte) (l : List Byte) : Answers s (s.doStationSet i l) := by
  unfold State.doStationSet
  split
  · refine ite (refused s _) (ite (refused s _) (ok ?_ _))
    exact (LinkFrame.of_engine (.withStation _ _ _)).trans (.reconfigure _ _)
  · exact refused s _

theorem doStationGet (s : State) (i : Byte) : Answers s (s.doStationGet i) := by
  unfold State.doStationGet
  split
  · exact read s _
  · exact refused s _

/-! ### Engines and timetables -/

theorem doLineStart (s : State) (e : Byte) : Answers s (s.doLineStart e) := by
  unfold State.doLineStart
  split
  · exact ite (refused s _) (ite (ok (.of_engine (.startEngine _ _)) _) (refused s _))
  · exact refused s _

theorem doLineStop (s : State) (e m : Byte) : Answers s (s.doLineStop e m) := by
  unfold State.doLineStop
  split
  · have stops : ∀ e m, Answers s ((s.setStopping e m).ok []) := fun e m => ok (.of_engine (.setStopping _ _ _)) _
    split
    · exact refused s _
    · exact stops _ _
    · exact ite (stops _ _) (refused s _)
  · exact refused s _

theorem doLineStatus (s : State) (e : Byte) : Answers s (s.doLineStatus e) := by
  unfold State.doLineStatus
  split
  · exact read s _
  · exact refused s _

theorem doSlotSet (s : State) (e n : Byte) (l : List Byte) : Answers s (s.doSlotSet e n l) := by
  unfold State.doSlotSet
  split
  · exact ok (.withShadow _ _ _) _
  · exact refused s _

theorem doSlotGet (s : State) (e b n : Byte) : Answers s (s.doSlotGet e b n) := by
  unfold State.doSlotGet
  split
  · exact read s _
  · exact refused s _

theorem doBankHeaderSet (s : State) (e : Byte) (l : List Byte) : Answers s (s.doBankHeaderSet e l) := by
  unfold State.doBankHeaderSet
  split
  · exact ok (.withShadow _ _ _) _
  · exact refused s _

theorem doBankHeaderGet (s : State) (e b : Byte) : Answers s (s.doBankHeaderGet e b) := by
  unfold State.doBankHeaderGet
  split
  · exact read s _
  · exact refused s _

theorem doBankCopy (s : State) (e : Byte) : Answers s (s.doBankCopy e) := by
  unfold State.doBankCopy
  split
  · exact ok (.withShadow _ _ _) _
  · exact refused s _

theorem doBankSwap (s : State) (e x : Byte) : Answers s (s.doBankSwap e x) := by
  unfold State.doBankSwap
  split
  · exact ok (.withEngine _ _ _) _
  · exact refused s _

/-! ### Descriptors, pairs and demands -/

theorem doDescriptorSet (s : State) (d : Byte) (l : List Byte) : Answers s (s.doDescriptorSet d l) := by
  unfold State.doDescriptorSet
  split
  · exact ite (refused s _) (ok .of_quiet _)
  · exact refused s _

theorem doDescriptorGet (s : State) (d : Byte) : Answers s (s.doDescriptorGet d) := by
  unfold State.doDescriptorGet
  split
  · exact read s _
  · exact refused s _

theorem doPairSet (s : State) (p d : Byte) : Answers s (s.doPairSet p d) := by
  unfold State.doPairSet
  split
  · exact ite (ok .of_quiet _) (refused s _)
  · exact refused s _

theorem doPairGet (s : State) (p : Byte) : Answers s (s.doPairGet p) := by
  unfold State.doPairGet
  split
  · exact read s _
  · exact refused s _

theorem doPairRead (s : State) (p k n : Byte) : Answers s (s.doPairRead p k n) := by
  unfold State.doPairRead
  split
  · exact ite (read s _) (refused s _)
  · exact refused s _

theorem doPairWrite (s : State) (p k : Byte) (ws : List Word) : Answers s (s.doPairWrite p k ws) := by
  unfold State.doPairWrite
  split
  · exact ite (refused s _) (ite (refused s _) (ite (refused s _) (ok .of_quiet _)))
  · exact refused s _

theorem doPairRelease (s : State) (p : Byte) : Answers s (s.doPairRelease p) := by
  unfold State.doPairRelease
  split
  · exact ite (refused s _) (ok .of_quiet _)
  · exact refused s _

theorem doPairCommit (s : State) (p : Byte) : Answers s (s.doPairCommit p) := by
  unfold State.doPairCommit
  split
  · exact ite (refused s _) (ok .of_quiet _)
  · exact refused s _

theorem doDemand (s : State) (tag e i k : Byte) (pt : Word) (n : Byte) (ws : List Word) :
    Answers s (s.doDemand tag e i k pt n ws) := by
  unfold State.doDemand
  refine ite (refused s _) ?_
  split
  · refine ite (refused s _) (ite (refused s _) (ite (refused s _) (ite (refused s _) (ite (refused s _) ?_))))
    exact accepted (.withEngine _ _ _) _
  · exact refused s _

theorem handlePairWrite (s : State) (p k : Byte) (l : List Byte) : Answers s (s.handlePairWrite p k l) := by
  unfold State.handlePairWrite
  split
  · exact ite (doPairWrite _ _ _ _) (refused s _)
  · exact refused s _

theorem handleDemand (s : State) (tag e i k p1 p0 n : Byte) (l : List Byte) :
    Answers s (s.handleDemand tag e i k p1 p0 n l) := by
  unfold State.handleDemand
  split
  · exact ite (doDemand _ _ _ _ _ _ _ _) (refused s _)
  · exact refused s _

/-! ### The service stack and the store -/

theorem doTake (s : State) : Answers s s.doTake := by
  unfold State.doTake
  refine ite (refused s _) ?_
  split
  · exact ite (ok .of_quiet _) (refused s _)
  · exact refused s _

theorem doDone (s : State) : Answers s s.doDone := by
  unfold State.doDone
  split
  · exact refused s _
  · rename_i x rest _
    have popped : LinkFrame s { s with stack := rest } := .of_quiet
    exact ok (popped.trans ((LinkFrame.releaseStation _ _).trans (.reoffer _))) _

theorem doStoreSave (s : State) (a b : Byte) : Answers s (s.doStoreSave a b) := by
  unfold State.doStoreSave
  split
  · exact ite (refused s _) (ite (accepted (.beginStore _ _) _) (refused s _))
  · exact refused s _

theorem doStoreErase (s : State) : Answers s s.doStoreErase := by
  unfold State.doStoreErase
  exact ite (refused s _) (ite (accepted (.beginStore _ _) _) (refused s _))

theorem doStoreCancel (s : State) : Answers s s.doStoreCancel := by
  unfold State.doStoreCancel
  exact ite (refused s _) (ok (.cancelStore _ _) _)

/-! ### Every request -/

/-- A frame of any KIND and payload is answered by its owner, or refused (R149). -/
theorem handle (s : State) (f : Frame) : Answers s (s.handle f) := by
  unfold State.handle
  split
  · split; exacts [read s _, refused s _]
  · split; exacts [ok .of_quiet _, refused s _]
  · split; exacts [read s _, refused s _]
  · split; exacts [ok .of_quiet _, refused s _]
  · split; exacts [doPartSet _ _ _ _, refused s _]
  · split; exacts [read s _, refused s _]
  · split; exacts [doArrange _ _, refused s _]
  · split; exacts [doPortSet _ _ _, refused s _]
  · split; exacts [doPortGet _ _, refused s _]
  · split; exacts [doLineStart _ _, refused s _]
  · split; exacts [doLineStop _ _ _, refused s _]
  · split; exacts [doLineStatus _ _, refused s _]
  · split; exacts [doStationSet _ _ _, refused s _]
  · split; exacts [doStationGet _ _, refused s _]
  · split; exacts [ite (doSlotSet _ _ _ _) (refused s _), refused s _]
  · split; exacts [doSlotGet _ _ _ _, refused s _]
  · split; exacts [doBankHeaderSet _ _ _, refused s _]
  · split; exacts [doBankHeaderGet _ _ _, refused s _]
  · split; exacts [doBankCopy _ _, refused s _]
  · split; exacts [doBankSwap _ _ _, refused s _]
  · split; exacts [ite (doDescriptorSet _ _ _) (refused s _), refused s _]
  · split; exacts [doDescriptorGet _ _, refused s _]
  · split; exacts [doPairSet _ _ _, refused s _]
  · split; exacts [doPairGet _ _, refused s _]
  · split; exacts [doPairRead _ _ _ _, refused s _]
  · split; exacts [handlePairWrite _ _ _ _, refused s _]
  · split; exacts [doPairRelease _ _, refused s _]
  · split; exacts [doPairCommit _ _, refused s _]
  · split; exacts [handleDemand _ _ _ _ _ _ _ _ _, refused s _]
  · split; exacts [doTake _, refused s _]
  · split; exacts [doDone _, refused s _]
  · split; exacts [doStoreSave _ _ _, refused s _]
  · split; exacts [doStoreErase _, refused s _]
  · split; exacts [doStoreCancel _, refused s _]
  · exact refused s _

end Answers

/-! ### The arrival of a frame (R147, R148) -/

theorem State.receiveFrame_long {f : Frame} (s : State) (hl : 250 < f.payload.length) :
    s.receiveFrame f = { s with rx := .hunting } := if_neg (Nat.not_le.mpr hl)

theorem State.receiveFrame_short {f : Frame} (s : State) (hl : f.payload.length ≤ 250) :
    s.receiveFrame f = ({ s with rx := .hunting } : State).acceptFrame f := if_pos hl

theorem State.receiveFrame_full {f g h : Frame} {s : State} (hl : f.payload.length ≤ 250) (hp : s.processing = some g)
    (hh : s.held = some h) : s.receiveFrame f = { s with rx := .hunting } := by
  rw [s.receiveFrame_short hl, State.acceptFrame]
  simp only [hp, hh]

theorem State.receiveFrame_held {f g : Frame} {s : State} (hl : f.payload.length ≤ 250) (hp : s.processing = some g)
    (hh : s.held = none) : s.receiveFrame f = { s with rx := .hunting, held := some f } := by
  rw [s.receiveFrame_short hl, State.acceptFrame]
  simp only [hp, hh]

/-- A frame that is dispatched has its reply placed, and leaves the held request alone (R149). -/
theorem State.receiveFrame_holdsReply {f : Frame} {s : State} (hl : f.payload.length ≤ 250) (hp : s.processing = none) :
    s.HoldsReply (s.receiveFrame f) f ((s.inDispatch f).handle f).reply ∧ (s.receiveFrame f).held = s.held := by
  have answered := (Answers.handle (s.inDispatch f) f).frame
  rw [State.receiveFrame_idle s f hp hl]
  exact ⟨State.placeReply_holds _ _ _ _ answered.rx, (State.transmit_held _).trans answered.held⟩

/-- Settles O3: a frame that is received is dispatched, held or discarded, and a request command is such a frame's arrival. -/
theorem buffersPlaceEveryRequest : Obligations.BuffersPlaceEveryRequest := by
  refine ⟨fun i f s hi => ?_, fun i f s hi => exec_of_requestFrame hi s, fun f s => ?_⟩
  · rw [exec_of_requestFrame hi]
    refine ⟨fun hl => congrArg _ (s.receiveFrame_long hl), fun hl => ⟨fun g h hp hh => ?_, fun g hp hh => ?_, fun hp => ?_⟩⟩
    · exact congrArg _ (State.receiveFrame_full hl hp hh)
    · exact congrArg _ (State.receiveFrame_held hl hp hh)
    · exact ⟨_, _, rfl, State.receiveFrame_holdsReply hl hp⟩
  · refine ⟨s.receiveFrame_long, fun hl => ⟨fun g h => State.receiveFrame_full hl, fun g => State.receiveFrame_held hl, ?_⟩⟩
    exact fun hp => ⟨_, State.receiveFrame_holdsReply hl hp⟩

end Sys2Proof.Machine
end

section
/-!
Every command goes on in every state, and leaves the commands that wait behind it (O2).
-/

namespace Sys2Proof.Machine

/-- A command goes on from `s`, and the commands that wait behind it are left alone. -/
def GoesOn (s : State) (o : Host.Outcome State Fault Refusal) : Prop := ∃ t, o = .next t ∧ t.pending = s.pending

namespace GoesOn
variable (s : State)

theorem of {s t : State} (h : t.pending = s.pending) : GoesOn s (.next t) := ⟨t, rfl, h⟩

/-- An event that the state excludes (log entry 3). -/
theorem stays : GoesOn s (.next s) := of rfl

theorem of_engine {s t : State} (h : EngineFrame s t) : GoesOn s (.next t) := of h.pending

theorem of_link {s t : State} (h : LinkFrame s t) : GoesOn s (.next t) := of h.pending

theorem ite {s : State} {c : Prop} [Decidable c] {o o' : Host.Outcome State Fault Refusal} (h : GoesOn s o)
    (h' : GoesOn s o') : GoesOn s (if c then o else o') := by split <;> assumption

/-! #### The host link -/

theorem dispatch_pending (f : Frame) : (s.dispatch f).pending = s.pending :=
  (State.transmit_pending _).trans (Answers.handle (s.reserveTx f) f).frame.pending

theorem acceptFrame_pending (f : Frame) : (s.acceptFrame f).pending = s.pending := by
  unfold State.acceptFrame
  split
  · exact dispatch_pending s f
  · rfl
  · rfl

theorem receiveFrame_pending (f : Frame) : (s.receiveFrame f).pending = s.pending := by
  unfold State.receiveFrame
  split
  · exact acceptFrame_pending _ f
  · rfl

theorem frameComplete_pending (bytes : List Byte) : (s.frameComplete bytes).pending = s.pending := by
  unfold State.frameComplete
  split
  · exact acceptFrame_pending s _
  · rfl

theorem hostByte_pending (b : Byte) (stop : Level) (returned : Bool) : (s.hostByte b stop returned).pending = s.pending := by
  unfold State.hostByte
  split
  · rfl
  · exact frameComplete_pending _ _

/-- A reset keeps the waiting commands (log entry 19). -/
theorem fullReset_pending (cause : ResetCause) : (s.fullReset cause).pending = s.pending := by
  have started : ∀ (u : State) (m : Image), (u.autostart m).pending = u.pending := fun u m =>
    ((EngineFrame.ite (.startEngine u .a) (.refl u)).trans (.ite (.startEngine _ .b) (.refl _))).pending
  unfold State.fullReset State.startUp
  split
  · exact (State.raise_pending _ _).trans (started _ _)
  · exact State.raise_pending _ _

theorem replyEnds_pending : s.replyEnds.pending = s.pending := by
  unfold State.replyEnds
  dsimp only
  split
  · exact fullReset_pending _ _
  split
  · exact dispatch_pending _ _
  · exact State.transmit_pending _

theorem requestFrameComplete (rest : List Byte) : GoesOn s (execRequestFrameComplete rest s) := by
  unfold execRequestFrameComplete
  split
  · exact of (frameComplete_pending _ _)
  · exact stays s

theorem hostGapTimerExpiry : GoesOn s (execHostGapTimerExpiry s) := by
  unfold execHostGapTimerExpiry
  split
  · exact of rfl
  all_goals exact stays s

theorem replySent : GoesOn s (execReplySent s) := by
  unfold execReplySent
  split
  · exact of (replyEnds_pending s)
  all_goals exact stays s

theorem noticeSent : GoesOn s (execNoticeSent s) := by
  unfold execNoticeSent
  split
  · exact of (State.transmit_pending _)
  all_goals exact stays s

/-! #### The store -/

theorem storeWpAsserted (pins : BoardPins) : GoesOn s (execStoreWpAsserted pins s) := by
  unfold execStoreWpAsserted
  exact ite (of (LinkFrame.cancelStore _ _).pending) (of rfl)

theorem endStore_pending (save : Bool) (o : StoreOutcome) (im : ImageState) : (s.endStore save o im).pending = s.pending :=
  (LinkFrame.endStore s save o im).pending

theorem eraseDone_pending (op : StoreOp) : (s.eraseDone op).pending = s.pending := by
  unfold State.eraseDone State.beginPage
  split
  · rfl
  · exact endStore_pending _ _ _ _

theorem blockEraseComplete (erased : Bool) : GoesOn s (execBlockEraseComplete erased s) := by
  unfold execBlockEraseComplete
  split
  · exact ite (ite (of (eraseDone_pending _ _)) (of rfl)) (of (endStore_pending _ _ _ _))
  all_goals exact stays s

theorem eraseTimeout : GoesOn s (execEraseTimeout s) := by
  unfold execEraseTimeout
  split
  · exact of (endStore_pending _ _ _ _)
  all_goals exact stays s

theorem programFails_pending : s.programFails.pending = s.pending := by
  unfold State.programFails State.beginPage State.beginMark
  split
  · split
    · exact endStore_pending _ _ _ _
    · rfl
  · split
    · exact endStore_pending _ _ _ _
    · rfl
  all_goals rfl

theorem programVerifies_pending : s.programVerifies.pending = s.pending := by
  unfold State.programVerifies State.beginPage State.beginMark
  split
  · dsimp only
    split <;> rfl
  · exact endStore_pending _ _ _ _
  all_goals rfl

theorem programEnds_pending : s.programEnds.pending = s.pending := by
  unfold State.programEnds
  split <;> rfl

theorem pageProgramComplete (how : ProgramEnd) : GoesOn s (execPageProgramComplete how s) := by
  cases how
  · exact of (programVerifies_pending s)
  · exact of (programFails_pending s)
  · exact of (programEnds_pending s)

theorem programTimeout : GoesOn s (execProgramTimeout s) := by
  unfold execProgramTimeout
  exact ite (stays s) (of (programFails_pending s))

/-! #### The engines -/

theorem reach_pending (e : Engine) (us : Nat) : (s.reach e us).pending = s.pending := by
  unfold State.reach
  split <;> rfl

theorem periodExpiry (e : Engine) : GoesOn s (execPeriodExpiry e s) := by
  unfold execPeriodExpiry
  split
  · exact of ((EngineFrame.periodExpires _ _).pending.trans (reach_pending _ _ _))
  · exact stays s

theorem slotStartTime (e : Engine) : GoesOn s (execSlotStartTime e s) := by
  unfold execSlotStartTime
  dsimp only
  split
  · exact ite (of ((EngineFrame.slotStarts _ _).pending.trans (reach_pending _ _ _))) (stays s)
  · exact stays s

/-! #### The field lines -/

/-- An attempt ends with a last character at the port (R5). -/
theorem endWithChar (p : PortId) (a : Attempt) (r : Report) (g : Port → Port) :
    GoesOn s (.next ((s.withPort p g).endAttempt p a r)) :=
  of_engine ((EngineFrame.withPort _ _ _).trans (.endAttempt _ _ _ _))

theorem requestFrameSent (p : PortId) : GoesOn s (execRequestFrameSent p s) := by
  unfold execRequestFrameSent
  split
  · exact of_engine (.withPort _ _ _)
  all_goals exact stays s

theorem fieldChar_frame (p : PortId) (v : Byte) (parity stop : Level) : EngineFrame s (s.fieldChar p v parity stop) := by
  unfold State.fieldChar
  dsimp only
  split
  · split
    · exact .withPort _ _ _
    · exact (EngineFrame.withPort _ _ _).trans (.endAttempt _ _ _ _)
  · exact .refl s

theorem replyFrameComplete (p : PortId) (rest : List Byte) : GoesOn s (execReplyFrameComplete p rest s) := by
  unfold execReplyFrameComplete
  split
  · split
    · exact endWithChar _ _ _ _ _
    · exact stays s
  · split
    · exact endWithChar _ _ _ _ _
    · exact stays s
  all_goals exact stays s

theorem replyTimeout (p : PortId) : GoesOn s (execReplyTimeout p s) := by
  unfold execReplyTimeout
  split
  · split
    · exact of_engine (.withPort _ _ _)
    · exact of_engine (.endAttempt _ _ _ _)
  all_goals exact stays s

theorem replyGapExpiry (p : PortId) : GoesOn s (execReplyGapExpiry p s) := by
  unfold execReplyGapExpiry
  split
  · split
    · exact stays s
    · exact of_engine (.endAttempt _ _ _ _)
  · split
    · exact stays s
    · exact of_engine (.endAttempt _ _ _ _)
  all_goals exact stays s

theorem discardLimitReached (last : LastCharacter) : GoesOn s (execDiscardLimitReached last s) := by
  unfold execDiscardLimitReached
  split
  · split
    · exact endWithChar _ _ _ _ _
    · exact stays s
  all_goals exact stays s

theorem abortedCharacterEnd (p : PortId) : GoesOn s (execAbortedCharacterEnd p s) := by
  unfold execAbortedCharacterEnd
  split
  · exact of_engine (.withPort _ _ _)
  all_goals exact stays s

theorem turnaroundGapExpiry (p : PortId) : GoesOn s (execTurnaroundGapExpiry p s) := by
  unfold execTurnaroundGapExpiry
  split
  · exact of_engine ((EngineFrame.withPort _ _ _).trans (.portReady _ _ _))
  all_goals exact stays s

theorem lineLow (p : PortId) : GoesOn s (execLineLow p s) := by
  unfold execLineLow
  split
  · exact of_engine (.withPort _ _ _)
  · exact stays s

theorem lineHigh (p : PortId) : GoesOn s (execLineHigh p s) := by
  unfold execLineHigh
  split
  · exact of_engine (.withPort _ _ _)
  · exact stays s

theorem lineMonitorTimerExpiry (p : PortId) : GoesOn s (execLineMonitorTimerExpiry p s) := by
  have called : ∀ (u : State) (e : Engine), EngineFrame u (u.lineCall e p) := fun u e => by
    unfold State.lineCall
    exact .ite (.raise _ _) (.withEngine _ _ _)
  unfold execLineMonitorTimerExpiry
  split
  · exact of_engine ((EngineFrame.withPort _ _ _).trans (called _ _))
  · exact stays s

/-! #### Every command -/

theorem exec (c : Instr) : GoesOn s (exec c s) := by
  have request : ∀ {f}, requestFrame c = some f → GoesOn s (Machine.exec c s) := fun hf => by
    rw [exec_of_requestFrame hf]
    exact of (receiveFrame_pending s _)
  cases c with
  | requestFrameComplete rest => exact requestFrameComplete s rest
  | hostGapTimerExpiry => exact hostGapTimerExpiry s
  | replySent => exact replySent s
  | noticeSent => exact noticeSent s
  | powerOn l1 l0 => exact of (fullReset_pending _ _)
  | resetPin l1 l0 => exact of (fullReset_pending _ _)
  | storeWpAsserted pins => exact storeWpAsserted s pins
  | blockEraseComplete erased => exact blockEraseComplete s erased
  | eraseTimeout => exact eraseTimeout s
  | pageProgramComplete how => exact pageProgramComplete s how
  | programTimeout => exact programTimeout s
  | periodExpiry e => exact periodExpiry s e
  | slotStartTime e => exact slotStartTime s e
  | requestFrameSent p => exact requestFrameSent s p
  | replyTimeout p => exact replyTimeout s p
  | replyFrameComplete p rest => exact replyFrameComplete s p rest
  | replyGapExpiry p => exact replyGapExpiry s p
  | discardLimitReached last => exact discardLimitReached s last
  | abortedCharacterEnd p => exact abortedCharacterEnd s p
  | turnaroundGapExpiry p => exact turnaroundGapExpiry s p
  | lineLow p => exact lineLow s p
  | lineHigh p => exact lineHigh s p
  | lineMonitorTimerExpiry p => exact lineMonitorTimerExpiry s p
  | fieldCharacterReceived p v x => exact of_engine (fieldChar_frame s p v x.parity x.stop)
  | hostByteReceived v x => exact of (hostByte_pending s v x.stop x.returned)
  | _ => exact request rfl

end GoesOn

/-- Settles O2: each command has a next state, by the cases of its meaning, and none of its operations writes the queue. -/
theorem everyCommandGoesOn : Obligations.EveryCommandGoesOn := fun c s => GoesOn.exec s c

end Sys2Proof.Machine
end

section
/-!
The receiver of the host link, byte by byte (O4), the bytes that complete a frame (O5), and requests that are refused (O10).
-/

namespace Sys2Proof.Machine

/-! ### One byte (R145, R147) -/

/-- A framing error is the end of any frame, and a wait for HL_RXD to return high (R145). -/
theorem LinkRx.takeByte_low (rx : LinkRx) (b : Byte) (returned : Bool) : rx.takeByte b .low returned = (.waitHigh, none) := by
  cases rx with
  | hunting => rfl
  | waitHigh => exact congrArg (·, none) (if_pos (.inr rfl))
  | assembling bytes => rfl

theorem LinkRx.takeByte_waiting (b : Byte) (stop : Level) : LinkRx.waitHigh.takeByte b stop false = (.waitHigh, none) :=
  congrArg (·, none) (if_pos (.inl rfl))

/-- A receiver that hunts, or that waited on a line that has returned high, looks at a clean byte as a sync. -/
theorem LinkRx.takeByte_sync {rx : LinkRx} {returned : Bool} (h : rx = .hunting ∨ rx = .waitHigh ∧ returned = true) (b : Byte) :
    rx.takeByte b .high returned = (.hunt b, none) := by
  obtain rfl | ⟨rfl, rfl⟩ := h <;> rfl

section
variable {bytes : List Byte} {b : Byte} (returned : Bool)

/-- A LEN that no frame carries ends the frame (R147). -/
theorem LinkRx.takeByte_long (h : 250 < ((bytes ++ [b]).headD 0).toNat) :
    (LinkRx.assembling bytes).takeByte b .high returned = (.hunting, none) := by
  rw [LinkRx.takeByte, if_neg (by decide), if_pos (show Config.maxPayload < _ from h)]

/-- A byte inside a frame joins it. -/
theorem LinkRx.takeByte_inside (h : ((bytes ++ [b]).headD 0).toNat ≤ 250)
    (hl : (bytes ++ [b]).length ≠ ((bytes ++ [b]).headD 0).toNat + 5) :
    (LinkRx.assembling bytes).takeByte b .high returned = (.assembling (bytes ++ [b]), none) := by
  rw [LinkRx.takeByte, if_neg (by decide), if_neg (show ¬ Config.maxPayload < _ from Nat.not_lt.mpr h), if_neg hl]

/-- The last check byte completes the frame. -/
theorem LinkRx.takeByte_last (h : ((bytes ++ [b]).headD 0).toNat ≤ 250)
    (hl : (bytes ++ [b]).length = ((bytes ++ [b]).headD 0).toNat + 5) :
    (LinkRx.assembling bytes).takeByte b .high returned = (.hunting, some (bytes ++ [b])) := by
  rw [LinkRx.takeByte, if_neg (by decide), if_neg (show ¬ Config.maxPayload < _ from Nat.not_lt.mpr h), if_pos hl]

end

/-- A byte that completes no frame changes the receiver alone. -/
theorem exec_hostByte {s : State} {b : Byte} {x : ByteSample} {rx : LinkRx}
    (h : s.rx.takeByte b x.stop x.returned = (rx, none)) : exec (.hostByteReceived b x) s = .next { s with rx := rx } := by
  show Host.Outcome.next (s.hostByte b x.stop x.returned) = _
  rw [State.hostByte, h]

theorem exec_hostByte_last {s : State} {b : Byte} {x : ByteSample} {rx : LinkRx} {all : List Byte}
    (h : s.rx.takeByte b x.stop x.returned = (rx, some all)) :
    exec (.hostByteReceived b x) s = .next (({ s with rx := rx } : State).frameComplete all) := by
  show Host.Outcome.next (s.hostByte b x.stop x.returned) = _
  rw [State.hostByte, h]

/-! ### The bytes of a frame (R146) -/

theorem Frame.len_covered {f : Frame} (h : f.payload.length ≤ 250) : (byteOf f.payload.length).toNat = f.payload.length := by
  rw [toNat_byteOf]
  omega

/-- The frame that its covered bytes hold behind two check bytes (R146). -/
theorem Frame.ofBytes_covered {f : Frame} (h : f.payload.length ≤ 250) (c1 c0 : Byte) :
    Frame.ofBytes (f.covered ++ [c1, c0]) = if wordOf c1 c0 = frameCheck f.covered then some f else none := by
  simp only [Frame.covered, List.cons_append, Frame.ofBytes, Frame.len_covered h, List.take_left, List.drop_left]
  exact if_congr (wordBytes_eq_iff c1 c0 _) rfl rfl

theorem Frame.ofBytes_checked {f : Frame} (h : f.payload.length ≤ 250) :
    Frame.ofBytes (f.covered ++ wordBytes (frameCheck f.covered)) = some f := by
  rw [wordBytes, Frame.ofBytes_covered h, if_pos (wordOf_wordBytes _)]

/-- The bytes behind a sync, by their number, are those of one frame with its check bytes (R147). -/
def WholeFrame (all : List Byte) : Prop := (all.headD 0).toNat ≤ 250 ∧ all.length = (all.headD 0).toNat + 5

theorem Frame.whole {f : Frame} (h : f.payload.length ≤ 250) (c1 c0 : Byte) : WholeFrame (f.covered ++ [c1, c0]) := by
  have hlen := Frame.len_covered h
  refine ⟨?_, ?_⟩ <;> simp [Frame.covered] <;> omega

/-- A frame that is taken from its bytes has them. -/
theorem Frame.bytes_of_ofBytes {all : List Byte} {f : Frame} (hw : WholeFrame all) (h : Frame.ofBytes all = some f) :
    f.payload.length ≤ 250 ∧ all = f.covered ++ wordBytes (frameCheck f.covered) := by
  obtain ⟨hlen, hall⟩ := hw
  unfold Frame.ofBytes at h
  split at h
  · rename_i len kind tag rest
    dsimp only at h
    split at h
    · rename_i hcheck
      injection h with h
      simp only [List.headD_cons, List.length_cons] at hlen hall
      have hpayload : (rest.take len.toNat).length = len.toNat := by rw [List.length_take]; omega
      have hbyte : byteOf (rest.take len.toNat).length = len := by rw [hpayload, byteOf, BitVec.ofNat_toNat, BitVec.setWidth_eq]
      subst h
      refine ⟨by rw [hpayload]; exact hlen, ?_⟩
      rw [← hcheck, Frame.covered, hbyte]
      simp
    · cases h
  · cases h

theorem State.frameComplete_of_some {s : State} {all : List Byte} {f : Frame} (h : Frame.ofBytes all = some f) :
    s.frameComplete all = s.acceptFrame f := by rw [State.frameComplete, h]

theorem State.frameComplete_of_none {s : State} {all : List Byte} (h : Frame.ofBytes all = none) : s.frameComplete all = s := by
  rw [State.frameComplete, h]

/-- Settles O4: the gap timer and a byte by the receiver's phase, and a byte inside a frame by its place. -/
theorem receiverTakesEachByte : Obligations.ReceiverTakesEachByte := by
  intro s b stop returned c
  refine ⟨?_, fun hstop => ?_, fun hrx hret => ?_, fun hstop hrx => ?_, fun bytes hrx hstop => ⟨fun hempty => ?_, ?_⟩⟩
  · show execHostGapTimerExpiry s = _
    rw [execHostGapTimerExpiry]
    cases s.rx <;> rfl
  · subst hstop
    exact exec_hostByte (s.rx.takeByte_low b returned)
  · subst hret
    rw [exec_hostByte (rx := .waitHigh) (by rw [hrx]; exact LinkRx.takeByte_waiting b stop), ← hrx]
  · subst hstop
    exact exec_hostByte (LinkRx.takeByte_sync hrx b)
  · subst hempty hstop
    split
    · rename_i hlong
      exact exec_hostByte (by rw [hrx]; exact LinkRx.takeByte_long (bytes := []) returned hlong)
    · rename_i hfits
      have hone : ([b] : List Byte).length ≠ ([b].headD 0).toNat + 5 := by simp
      exact exec_hostByte (by rw [hrx]; exact LinkRx.takeByte_inside (bytes := []) returned (Nat.not_lt.mp hfits) hone)
  · rintro len rest rfl hlen
    subst hstop
    refine ⟨fun hinside => ?_, fun hlast => ?_⟩
    · exact exec_hostByte (by
        rw [hrx]
        exact LinkRx.takeByte_inside returned hlen (by simp at hinside ⊢; omega))
    · have hwhole : WholeFrame (len :: rest ++ [b]) := ⟨hlen, by simp at hlast ⊢; omega⟩
      have completed := exec_hostByte_last (s := s) (b := b) (x := ⟨.high, returned⟩) (by
        rw [hrx]
        exact LinkRx.takeByte_last returned hwhole.1 hwhole.2)
      refine ⟨fun f hf hbytes => ?_, fun hnone => ?_⟩
      · rw [completed, hbytes, State.frameComplete_of_some (Frame.ofBytes_checked hf), s.receiveFrame_short hf]
      · rw [completed, State.frameComplete_of_none]
        refine Option.eq_none_iff_forall_not_mem.mpr fun f hf => ?_
        obtain ⟨hfits, hbytes⟩ := Frame.bytes_of_ofBytes hwhole hf
        exact hnone f hfits hbytes

/-! ### The bytes that complete a frame -/

theorem WholeFrame.inside {bytes rest : List Byte} {b : Byte} (h : WholeFrame (bytes ++ b :: rest)) :
    ((bytes ++ [b]).headD 0).toNat ≤ 250 ∧
      ((bytes ++ [b]).length = ((bytes ++ [b]).headD 0).toNat + 5 ↔ rest = []) := by
  obtain ⟨hlen, hall⟩ := h
  have hhead : (bytes ++ b :: rest).headD 0 = (bytes ++ [b]).headD 0 := by cases bytes <;> rfl
  rw [hhead] at hlen hall
  refine ⟨hlen, ?_⟩
  rw [List.length_append, List.length_cons] at hall
  rw [List.length_append, List.length_singleton, ← List.length_eq_zero_iff]
  omega

/-- Clean bytes inside a frame complete it with the last of them (log entry 11). -/
theorem LinkRx.completes_inside : ∀ {rest bytes : List Byte}, rest ≠ [] → WholeFrame (bytes ++ rest) →
    (LinkRx.assembling bytes).completes rest = some (bytes ++ rest)
  | [], _, hne, _ => absurd rfl hne
  | [b], bytes, _, h => by
    rw [LinkRx.completes, LinkRx.takeByte_last true h.1 h.2]
  | b :: c :: rest, bytes, _, h => by
    obtain ⟨hlen, hlast⟩ := h.inside
    have onward := LinkRx.completes_inside (bytes := bytes ++ [b]) (List.cons_ne_nil c rest) (by rwa [← List.append_cons])
    rw [← List.append_cons] at onward
    rw [LinkRx.completes, LinkRx.takeByte_inside true hlen (mt hlast.mp (List.cons_ne_nil _ _))]
    · exact onward
    · exact List.cons_ne_nil c rest

/-- From HUNTING on, the sync comes first; a receiver that waited for HL_RXD hunts, since clean bytes come on a line that is high. -/
theorem LinkRx.completes_sync {rx : LinkRx} (hrx : rx = .hunting ∨ rx = .waitHigh) {rest : List Byte} (h : WholeFrame rest) :
    rx.completes (0xC3 :: rest) = some rest := by
  have hne : rest ≠ [] := fun h0 => by subst h0; cases h.2
  have hsync : rx.takeByte 0xC3 .high true = (.assembling [], none) :=
    LinkRx.takeByte_sync (hrx.imp_right fun h => ⟨h, rfl⟩) _
  rw [LinkRx.completes, hsync]
  · exact LinkRx.completes_inside hne h
  · exact hne

theorem exec_requestFrameComplete {s : State} {rest all : List Byte} (h : s.rx.completes rest = some all) :
    exec (.requestFrameComplete rest) s = .next (({ s with rx := .hunting } : State).frameComplete all) := by
  show execRequestFrameComplete rest s = _
  rw [execRequestFrameComplete, h]

/-- Settles O5: the bytes are taken from any place in the frame, and the frame is the one that its check accepts. -/
theorem frameCompletesFromAnyPlace : Obligations.FrameCompletesFromAnyPlace := by
  intro s f c1 c0 pre rest hf hne hbytes hrx
  have hwhole := Frame.whole hf c1 c0
  have completes : s.rx.completes rest = some (f.covered ++ [c1, c0]) := by
    cases pre with
    | nil =>
      rw [← hbytes.trans (List.nil_append rest)]
      exact LinkRx.completes_sync hrx hwhole
    | cons sync taken =>
      have htaken : f.covered ++ [c1, c0] = taken ++ rest := (List.cons.inj hbytes).2
      rw [show s.rx = .assembling taken from hrx, htaken]
      exact LinkRx.completes_inside hne (htaken ▸ hwhole)
  have taken := Frame.ofBytes_covered hf c1 c0
  rw [exec_requestFrameComplete completes]
  split at taken <;> rename_i hcheck
  · rw [if_pos hcheck, State.frameComplete_of_some taken, s.receiveFrame_short hf]
  · rw [if_neg hcheck, State.frameComplete_of_none taken]

/-- A frame's own bytes, on a receiver that hunts, are its arrival. -/
theorem exec_wire {s : State} {f : Frame} (hf : f.payload.length ≤ 250) (hrx : s.rx = .hunting) :
    exec (.requestFrameComplete f.wire) s = .next (s.receiveFrame f) := by
  have hcheck : wordBytes (frameCheck f.covered) = [_, _] := rfl
  have completes := LinkRx.completes_sync (.inl hrx) (hcheck ▸ Frame.whole hf _ _)
  show exec (.requestFrameComplete (0xC3 :: (f.covered ++ wordBytes (frameCheck f.covered)))) s = _
  rw [exec_requestFrameComplete completes, State.frameComplete_of_some (Frame.ofBytes_checked hf), s.receiveFrame_short hf]

/-! ### Requests that are refused (R149, R150) -/

/-- A KIND that names no request (R149, step 1). -/
theorem State.handle_badKind (s : State) {f : Frame} (h : f.kind.toNat = 0 ∨ 0x22 < f.kind.toNat) :
    s.handle f = s.refuse .badKind := by
  unfold State.handle
  split
  case h_35 => rfl
  all_goals omega

theorem length_of_wordsOf : ∀ {bytes : List Byte} {ws : List Word}, wordsOf bytes = some ws → bytes.length = 2 * ws.length
  | [], ws, h => by cases h; rfl
  | [_], _, h => by cases h
  | _ :: _ :: rest, ws, h => by
    obtain ⟨vs, hvs, rfl⟩ := Option.map_eq_some_iff.mp h
    rw [List.length_cons, List.length_cons, List.length_cons, length_of_wordsOf hvs]
    omega

/-- PAIR-WRITE's run of words has 1 to 120 of them, whole (R119). -/
theorem State.handlePairWrite_badLength (s : State) (p k : Byte) {rest : List Byte}
    (h : lengthAllowed 0x1A (rest.length + 2) = false) : s.handlePairWrite p k rest = s.refuse .badLength := by
  unfold State.handlePairWrite
  split
  · rename_i ws hws
    rw [length_of_wordsOf hws] at h
    exact if_neg fun hfits => by simp [lengthAllowed] at h; omega
  · rfl

/-- DEMAND's run of words has 0 to 16 of them, whole (R75, 11.4). -/
theorem State.handleDemand_badLength (s : State) (tag e i k p1 p0 n : Byte) {rest : List Byte}
    (h : lengthAllowed 0x1D (rest.length + 6) = false) : s.handleDemand tag e i k p1 p0 n rest = s.refuse .badLength := by
  unfold State.handleDemand
  split
  · rename_i ws hws
    rw [length_of_wordsOf hws] at h
    exact if_neg fun hfits => by simp [lengthAllowed] at h; omega
  · rfl

/-- A length that its KIND does not allow (R149, step 2). -/
theorem State.handle_badLength (s : State) {f : Frame} (h0 : f.kind.toNat ≠ 0) (h22 : f.kind.toNat ≤ 0x22)
    (h : lengthAllowed f.kind.toNat f.payload.length = false) : s.handle f = s.refuse .badLength := by
  unfold State.handle
  split
  case h_35 => grind
  all_goals
    rename_i hkind
    rw [hkind] at h
  case h_15 | h_21 =>
    split
    · rename_i hpayload
      rw [hpayload] at h
      exact if_neg fun hrecord => by simp [lengthAllowed, hrecord] at h
    · rfl
  case h_26 =>
    split
    · rename_i hpayload
      rw [hpayload] at h
      exact State.handlePairWrite_badLength _ _ _ h
    · rfl
  case h_29 =>
    split
    · rename_i hpayload
      rw [hpayload] at h
      exact State.handleDemand_badLength _ _ _ _ _ _ _ _ h
    · rfl
  -- The owner of every other KIND takes a payload of the one length that is allowed.
  all_goals
    split
    · rename_i hpayload
      rw [hpayload] at h
      cases h
    · rfl

/-- The frame of a request command that the outside can send fits the link (R147). -/
theorem length_le_of_requestFrame {i : Instr} {f : Frame} (hi : requestFrame i = some f) (hw : i.wellFormed = true) :
    f.payload.length ≤ 250 := by
  cases i with
  | pairWrite tag pair start words => exact (Laws.RequestFits.pairWrite tag pair start words f hi hw).1
  | demand tag engine station kind point count words =>
    exact (Laws.RequestFits.demand tag engine station kind point count words f hi hw).1
  | _ => cases hi <;> exact Nat.le_of_ble_eq_true rfl

/-- Settles O10: a refusal is the one answer with such a result, and the first two checks are made on any KIND and LEN. -/
theorem refusalsChangeNothing : Obligations.RefusalsChangeNothing := by
  refine ⟨fun i f s hi hw hproc => ?_, fun s f hf hrx hproc => ⟨fun hkind => ?_, fun h0 h22 hlen => ?_⟩⟩
  · have hf := length_le_of_requestFrame hi hw
    obtain ⟨holds, -⟩ := State.receiveFrame_holdsReply hf hproc
    refine ⟨_, _, exec_of_requestFrame hi s, holds, fun hok hacc => ?_⟩
    have refused := (Answers.handle (s.inDispatch f) f).eq_refuse hok hacc
    rw [State.receiveFrame_idle s f hproc hf, refused]
    exact ⟨rfl, State.inDispatch_placeReply s f _⟩
  · have refused := (s.inDispatch f).handle_badKind (f := f) (hkind.imp_left fun h => by rw [h]; rfl)
    rw [exec_wire hf hrx, State.receiveFrame_idle s f hproc hf, refused]
    exact congrArg _ (State.inDispatch_placeReply s f _)
  · have hne : f.kind.toNat ≠ 0 := fun h => h0 (BitVec.eq_of_toNat_eq h)
    have refused := (s.inDispatch f).handle_badLength hne h22 hlen
    rw [exec_wire hf hrx, State.receiveFrame_idle s f hproc hf, refused]
    exact congrArg _ (State.inDispatch_placeReply s f _)

end Sys2Proof.Machine
end

section
/-!
A request's frame sent byte by byte, and frames that differ from it in unused bytes alone (O6).
-/

namespace Sys2Proof.Machine

/-! ### The bytes one by one -/

/-- The bytes of a frame behind its sync, one by one. -/
theorem runAll_inside {returned : Bool} : ∀ {rest bytes : List Byte} {s : State}, rest ≠ [] → WholeFrame (bytes ++ rest) →
    s.rx = .assembling bytes → runAll (rest.map fun b => .hostByteReceived b ⟨.high, returned⟩) s =
      .next (({ s with rx := .hunting } : State).frameComplete (bytes ++ rest))
  | [], _, _, hne, _, _ => absurd rfl hne
  | [b], bytes, s, _, h, hrx => by
    have last := LinkRx.takeByte_last returned h.1 h.2
    rw [List.map_singleton, runAll, exec_hostByte_last (by rw [hrx]; exact last)]
    rfl
  | b :: c :: rest, bytes, s, _, h, hrx => by
    obtain ⟨hlen, hlast⟩ := h.inside
    have inside := LinkRx.takeByte_inside returned hlen (mt hlast.mp (List.cons_ne_nil _ _))
    have onward := runAll_inside (returned := returned) (bytes := bytes ++ [b]) (s := { s with rx := .assembling (bytes ++ [b]) })
      (List.cons_ne_nil c rest) (by rwa [← List.append_cons]) rfl
    rw [← List.append_cons] at onward
    rw [List.map_cons, runAll, exec_hostByte (by rw [hrx]; exact inside)]
    exact onward

/-- A frame's bytes one by one, from the sync on, are its arrival. -/
theorem runAll_wire {s : State} {f : Frame} {returned : Bool} (hf : f.payload.length ≤ 250)
    (hrx : s.rx = .hunting ∨ s.rx = .waitHigh ∧ returned = true) :
    runAll (f.wire.map fun b => .hostByteReceived b ⟨.high, returned⟩) s = .next (s.receiveFrame f) := by
  have hwhole : WholeFrame (f.covered ++ wordBytes (frameCheck f.covered)) := Frame.whole hf _ _
  have taken := runAll_inside (returned := returned) (s := { s with rx := .assembling [] }) (bytes := [])
    (rest := f.covered ++ wordBytes (frameCheck f.covered)) (List.cons_ne_nil _ _) hwhole rfl
  have sync : exec (.hostByteReceived 0xC3 ⟨.high, returned⟩) s = .next { s with rx := .assembling [] } :=
    exec_hostByte (LinkRx.takeByte_sync hrx _)
  rw [List.nil_append, State.frameComplete_of_some (Frame.ofBytes_checked hf)] at taken
  rw [Frame.wire, List.map_cons, runAll, sync, s.receiveFrame_short hf]
  exact taken

/-! ### Unused bytes (11.3, R171) -/

/-- A payload that agrees with another in its first `n` bytes. -/
theorem eq_take_append_drop {p q : List Byte} {n : Nat} (h : ∀ k < n, q[k]? = p[k]?) : q = p.take n ++ q.drop n := by
  have front : q.take n = p.take n := List.ext_getElem? fun k => by
    rw [List.getElem?_take, List.getElem?_take]
    split
    · exact h k ‹_›
    · rfl
  rw [← front, List.take_append_drop]

theorem StationConfig.ofBytes_unused (flags address level descriptor retries : Byte) {x y : List Byte} (hx : x.length = 3)
    (hy : y.length = 3) : StationConfig.ofBytes (flags :: address :: level :: descriptor :: retries :: x) =
      StationConfig.ofBytes (flags :: address :: level :: descriptor :: retries :: y) := by
  match x, y, hx, hy with
  | [_, _, _], [_, _, _], _, _ => rfl

theorem Descriptor.ofBytes_unused (kind p1 p0 per remaining pair wordOffset flags : Byte) {x y : List Byte} (hx : x.length = 8)
    (hy : y.length = 8) : Descriptor.ofBytes (kind :: p1 :: p0 :: per :: remaining :: pair :: wordOffset :: flags :: x) =
      Descriptor.ofBytes (kind :: p1 :: p0 :: per :: remaining :: pair :: wordOffset :: flags :: y) := by
  match x, y, hx, hy with
  | [_, _, _, _, _, _, _, _], [_, _, _, _, _, _, _, _], _, _ => rfl

theorem Slot.ofBytes_unused (kind o1 o0 divisor phase station request p1 p0 count pair wordOffset flipAfter : Byte)
    {x y : List Byte} (hx : x.length = 3) (hy : y.length = 3) :
    Slot.ofBytes (kind :: o1 :: o0 :: divisor :: phase :: station :: request :: p1 :: p0 :: count :: pair :: wordOffset ::
      flipAfter :: x) =
    Slot.ofBytes (kind :: o1 :: o0 :: divisor :: phase :: station :: request :: p1 :: p0 :: count :: pair :: wordOffset ::
      flipAfter :: y) := by
  match x, y, hx, hy with
  | [_, _, _], [_, _, _], _, _ => rfl

/-- The FIXED fields of an ATTENTION slot are unused too. -/
theorem Slot.ofBytes_unused_fixed (o1 o0 divisor phase : Byte) {x y : List Byte} (hx : x.length = 11) (hy : y.length = 11) :
    Slot.ofBytes (0 :: o1 :: o0 :: divisor :: phase :: x) = Slot.ofBytes (0 :: o1 :: o0 :: divisor :: phase :: y) := by
  match x, y, hx, hy with
  | [_, _, _, _, _, _, _, _, _, _, _], [_, _, _, _, _, _, _, _, _, _, _], _, _ => rfl

/-! ### What a transmitter that is not free sends is read by no request -/

/-- The part with another frame being sent. -/
def State.withTx (x : Transmission) (s : State) : State := { s with tx := some x }

/-- What a request gives, with another frame being sent. -/
def Handled.withTx (x : Transmission) (h : Handled) : Handled := ⟨h.reply, h.state.withTx x⟩

section
variable {s : State} (x : Transmission)

theorem State.raise_withTx (n : Notice) (h : s.tx ≠ none) : (s.withTx x).raise n = (s.raise n).withTx x := by
  obtain ⟨y, hy⟩ := Option.ne_none_iff_exists'.mp h
  cases he : n.enabled s.enables with
  | false => rw [State.raise_of_disabled n s he, State.raise_of_disabled n (s.withTx x) he]
  | true =>
    by_cases hr : s.notices.length < Config.noticeEntries
    · rw [State.raise_of_busy n s y he hy hr, State.raise_of_busy n (s.withTx x) x he rfl hr]
      rfl
    · rw [State.raise_of_full n s y he hy (Nat.not_lt.mp hr), State.raise_of_full n (s.withTx x) x he rfl (Nat.not_lt.mp hr)]
      rfl

theorem State.handOver_withTx (i : Fin 64) (o : Origin) (h : s.tx ≠ none) :
    (s.withTx x).handOver i o = (s.handOver i o).withTx x := by
  by_cases habove : s.serviceLevel < (s.attn i).level
  · rw [State.handOver, State.handOver, if_pos habove, ← State.raise_withTx x _ h]
    exact if_pos habove
  · rw [State.handOver, State.handOver, if_neg habove]
    exact if_neg habove

end

/-! ### Requests that write a record -/

section
variable {s : State} (x : Transmission)

theorem State.doSlotSet_withTx (engine slot : Byte) (record : List Byte) :
    (s.withTx x).doSlotSet engine slot record = (s.doSlotSet engine slot record).withTx x := by
  unfold State.doSlotSet
  split
  · rename_i e _ _ _ _ _
    cases e <;> rfl
  · rfl

theorem State.doDescriptorSet_withTx (descriptor : Byte) (record : List Byte) :
    (s.withTx x).doDescriptorSet descriptor record = (s.doDescriptorSet descriptor record).withTx x := by
  unfold State.doDescriptorSet
  split
  · rename_i d r _ _
    by_cases hd : (s.claim d).isSome = true
    · rw [if_pos hd]
      exact if_pos hd
    · rw [if_neg hd]
      exact if_neg hd
  · rfl

theorem State.reconfigure_withTx (i : Fin 64) (h : s.tx ≠ none) :
    (s.withTx x).reconfigure i = (s.reconfigure i).withTx x := by
  rw [State.reconfigure_eq, State.reconfigure_eq]
  dsimp only
  by_cases hoff : (s.station i).config.enabled = false
  · rw [if_pos hoff]
    exact if_pos hoff
  rw [if_neg hoff]
  refine (if_neg hoff).trans ?_
  by_cases hpending : (s.attn i).state = .pending
  · rw [if_pos hpending]
    refine (if_pos hpending).trans ?_
    by_cases hescalated : (s.station i).config.mode = .host ∧ (effectiveLevel (s.station i).config (s.attn i).cls = 8 ∨
      s.mask.val < (effectiveLevel (s.station i).config (s.attn i).cls).val)
    · rw [if_pos hescalated]
      exact (if_pos hescalated).trans (State.handOver_withTx (s := s.setAttn i ⟨.escalated,
        effectiveLevel (s.station i).config (s.attn i).cls, (s.attn i).cls⟩) x i .stationSet h)
    · rw [if_neg hescalated]
      exact if_neg hescalated
  · rw [if_neg hpending]
    exact if_neg hpending

theorem State.doStationSet_withTx (station : Byte) (record : List Byte) (h : s.tx ≠ none) :
    (s.withTx x).doStationSet station record = (s.doStationSet station record).withTx x := by
  unfold State.doStationSet
  split
  · rename_i i c _ _
    by_cases hbusy : s.stationBusy i = true
    · rw [if_pos hbusy]
      exact if_pos hbusy
    · rw [if_neg hbusy]
      refine (if_neg hbusy).trans ?_
      by_cases hdup : c.enabled = true ∧ s.duplicates i c = true
      · rw [if_pos hdup]
        exact if_pos hdup
      · rw [if_neg hdup]
        refine (if_neg hdup).trans ?_
        have written : ((s.withTx x).withStation i (Station.configured · c)) =
          (s.withStation i (Station.configured · c)).withTx x := rfl
        rw [written, State.reconfigure_withTx (s := s.withStation i (Station.configured · c)) x i h]
        rfl
  · rfl

end

/-- `g` asks what `f` asks, whatever the transmitter that is not free sends meanwhile. -/
def SameRequest (f g : Frame) : Prop :=
  g.kind = f.kind ∧ g.tag = f.tag ∧ g.payload.length = f.payload.length ∧
    ∀ (s : State) (x : Transmission), s.tx ≠ none → (s.withTx x).handle g = (s.handle f).withTx x

namespace SameRequest

theorem of_handle {f g : Frame} (hk : g.kind = f.kind) (ht : g.tag = f.tag) (hl : g.payload.length = f.payload.length)
    (same : ∀ s : State, s.handle g = s.handle f)
    (busy : ∀ (s : State) (x : Transmission), s.tx ≠ none → (s.withTx x).handle f = (s.handle f).withTx x) : SameRequest f g :=
  ⟨hk, ht, hl, fun s x h => (same _).trans (busy s x h)⟩

theorem placeReply {f g : Frame} (h : SameRequest f g) (s : State) (x : Transmission) (r : Reply) (tx : Option Transmission) :
    (s.withTx x).placeReply g r tx = { s.placeReply f r tx with processing := some g } := by
  obtain ⟨hk, ht, _, _⟩ := h
  have answer : g.answer r = f.answer r := by rw [Frame.answer, Frame.answer, hk, ht]
  rw [State.placeReply, State.placeReply, answer]
  cases tx <;> rfl

theorem inDispatch {f g : Frame} (s : State) : ∃ x, s.inDispatch g = (s.inDispatch f).withTx x := by
  rcases htx : s.tx with _ | x
  · exact ⟨⟨.reply g, 0⟩, by rw [State.inDispatch, State.inDispatch, State.reserveTx, State.reserveTx, htx]; rfl⟩
  · exact ⟨x, by rw [State.inDispatch, State.inDispatch, State.reserveTx, State.reserveTx, htx]; rfl⟩

/-- Dispatched with nothing in processing, the two frames differ in the processing buffer alone. -/
theorem receiveFrame {f g : Frame} (h : SameRequest f g) {s : State} (hp : s.processing = none) (hl : f.payload.length ≤ 250) :
    s.receiveFrame g = { s.receiveFrame f with processing := some g } := by
  have hlen : g.payload.length ≤ 250 := h.2.2.1.trans_le hl
  obtain ⟨x, hx⟩ := inDispatch (f := f) (g := g) s
  have busy : (s.inDispatch f).tx ≠ none := Option.ne_none_iff_exists'.mpr (s.inDispatch_tx f)
  rw [s.receiveFrame_idle g hp hlen, s.receiveFrame_idle f hp hl, hx, h.2.2.2 _ x busy]
  exact h.placeReply _ x _ _

/-- STATION-SET reads six of its nine bytes. -/
theorem stationSet {tag station flags address level descriptor retries : Byte} {x y : List Byte} (hx : x.length = 3)
    (hy : y.length = 3) : SameRequest ⟨0x0D, tag, [station, flags, address, level, descriptor, retries] ++ x⟩
      ⟨0x0D, tag, [station, flags, address, level, descriptor, retries] ++ y⟩ := by
  have handled : ∀ (z : List Byte) (s : State), z.length = 3 →
      s.handle ⟨0x0D, tag, [station, flags, address, level, descriptor, retries] ++ z⟩ =
        s.doStationSet station (flags :: address :: level :: descriptor :: retries :: z) := by
    intro z s hz
    match z, hz with
    | [_, _, _], _ => rfl
  refine of_handle rfl rfl (by simp [hx, hy]) (fun s => ?_) fun s t ht => ?_
  · rw [handled x s hx, handled y s hy, State.doStationSet, State.doStationSet, StationConfig.ofBytes_unused _ _ _ _ _ hy hx]
  · rw [handled x _ hx, handled x s hx, State.doStationSet_withTx t station _ ht]

/-- Two records of SLOT-SET that are read alike. -/
theorem slotSet {tag engine slot : Byte} {x y : List Byte} (hx : x.length = 16) (hy : y.length = 16)
    (same : Slot.ofBytes y = Slot.ofBytes x) :
    SameRequest ⟨0x0F, tag, engine :: slot :: x⟩ ⟨0x0F, tag, engine :: slot :: y⟩ := by
  have handled : ∀ (z : List Byte) (s : State), z.length = 16 →
      s.handle ⟨0x0F, tag, engine :: slot :: z⟩ = s.doSlotSet engine slot z := fun _ _ hz => if_pos hz
  refine of_handle rfl rfl (by simp [hx, hy]) (fun s => ?_) fun s t _ => ?_
  · rw [handled x s hx, handled y s hy, State.doSlotSet, State.doSlotSet, same]
  · rw [handled x _ hx, handled x s hx, State.doSlotSet_withTx]

/-- Two records of DESCRIPTOR-SET that are read alike. -/
theorem descriptorSet {tag descriptor : Byte} {x y : List Byte} (hx : x.length = 16) (hy : y.length = 16)
    (same : Descriptor.ofBytes y = Descriptor.ofBytes x) :
    SameRequest ⟨0x15, tag, descriptor :: x⟩ ⟨0x15, tag, descriptor :: y⟩ := by
  have handled : ∀ (z : List Byte) (s : State), z.length = 16 →
      s.handle ⟨0x15, tag, descriptor :: z⟩ = s.doDescriptorSet descriptor z := fun _ _ hz => if_pos hz
  refine of_handle rfl rfl (by simp [hx, hy]) (fun s => ?_) fun s t _ => ?_
  · rw [handled x s hx, handled y s hy, State.doDescriptorSet, State.doDescriptorSet, same]
  · rw [handled x _ hx, handled x s hx, State.doDescriptorSet_withTx]

theorem eq_of_payload {f g : Frame} (hk : g.kind = f.kind) (ht : g.tag = f.tag) (hp : g.payload = f.payload) : g = f := by
  obtain ⟨_, _, _⟩ := f
  obtain ⟨_, _, _⟩ := g
  simp_all

end SameRequest

/-- A byte of a request's payload that the request does not use (11.3, R171). -/
def UnusedByte (f : Frame) (k : Nat) : Prop :=
  f.kind = 0x0D ∧ 6 ≤ k ∨ f.kind = 0x15 ∧ 9 ≤ k ∨ f.kind = 0x0F ∧ (15 ≤ k ∨ f.payload[2]? = some 0 ∧ 7 ≤ k)

/-- A frame that differs from a request's in unused bytes alone is that request or asks the same. -/
theorem sameRequest_of_unused {i : Instr} {f g : Frame} (hi : requestFrame i = some f) (hk : g.kind = f.kind)
    (ht : g.tag = f.tag) (hl : g.payload.length = f.payload.length)
    (hu : ∀ k, ¬ UnusedByte f k → g.payload[k]? = f.payload[k]?) : g = f ∨ SameRequest f g := by
  have equal (used : ∀ k, ¬ UnusedByte f k) : g = f ∨ SameRequest f g :=
    .inl (SameRequest.eq_of_payload hk ht (List.ext_getElem? fun k => hu k (used k)))
  obtain ⟨kind, tag, payload⟩ := g
  dsimp only at hk ht hl hu
  cases i
  case stationSet t station flags address level descriptor retries =>
    cases hi
    subst hk ht
    have length : payload.length = 9 := hl
    right
    have split := eq_take_append_drop (n := 6) fun k hlt => hu k (by simp [UnusedByte]; omega)
    rw [split]
    exact SameRequest.stationSet (x := [0, 0, 0]) rfl (by simp [length])
  case slotSet t engine slot kind offset divisor phase station request point count pair wordOffset flipAfter =>
    cases hi
    subst hk ht
    have length : payload.length = 18 := hl
    right
    by_cases hzero : kind = 0
    · have split := eq_take_append_drop (n := 7) fun k hlt => hu k (by simp [UnusedByte]; omega)
      subst hzero
      rw [split]
      exact SameRequest.slotSet rfl (by simp [length, wordBytes]) (Slot.ofBytes_unused_fixed _ _ _ _ (by simp [length]) rfl)
    · have split := eq_take_append_drop (n := 15) fun k hlt => hu k (by simp [UnusedByte, wordBytes]; exact ⟨hlt, fun h => absurd h hzero⟩)
      rw [split]
      exact SameRequest.slotSet rfl (by simp [length, wordBytes])
        (Slot.ofBytes_unused _ _ _ _ _ _ _ _ _ _ _ _ _ (by simp [length]) rfl)
  case descriptorSet t descriptor kind point perTransfer remaining pair wordOffset flags =>
    cases hi
    subst hk ht
    have length : payload.length = 17 := hl
    right
    have split := eq_take_append_drop (n := 9) fun k hlt => hu k (by simp [UnusedByte]; omega)
    rw [split]
    exact SameRequest.descriptorSet rfl (by simp [length]) (Descriptor.ofBytes_unused _ _ _ _ _ _ _ _ (by simp [length]) rfl)
  all_goals
    cases hi <;> exact equal fun k => by simp [UnusedByte]

/-- Settles O6: `runAll_wire` for the bytes, `sameRequest_of_unused` for a frame that differs in unused bytes. -/
theorem frameByteByByteIsTheRequest : Obligations.FrameByteByByteIsTheRequest := by
  refine ⟨fun i f s returned hi hw hrx => ?_, ?_⟩
  · rw [exec_of_requestFrame hi, runAll_wire (length_le_of_requestFrame hi hw) hrx]
  · intro i f g s hi hw hrx hp _ hk ht hl hu
    have hf := length_le_of_requestFrame hi hw
    have taken : (s.receiveFrame f).processing = some f := (State.receiveFrame_holdsReply hf hp).1.2.1
    refine ⟨s.receiveFrame f, exec_of_requestFrame hi s, ?_⟩
    rw [exec_wire (hl.trans_le hf) hrx]
    rcases sameRequest_of_unused hi hk ht hl hu with rfl | same
    · rw [← taken]
    · rw [same.receiveFrame hp hf]

end Sys2Proof.Machine
end

section
/-!
The transmitter's choice after each frame (O7). What a request does is the same whatever the receiver is in the middle of: every
operation that a dispatch makes leaves the receiver's state alone and does not read it.
-/

namespace Sys2Proof.Machine

/-! ### The part with another state of the receiver -/

/-- The part with the receiver in another state. -/
def State.withRx (x : LinkRx) (s : State) : State := { s with rx := x }

/-- What a request gives, with the receiver in another state. -/
def Handled.withRx (x : LinkRx) (h : Handled) : Handled := ⟨h.reply, h.state.withRx x⟩

/-- A look at one station, with the receiver in another state. -/
def GrantStep.withRx (x : LinkRx) : GrantStep → GrantStep
  | .again s => .again (s.withRx x)
  | .issued s => .issued (s.withRx x)

/-- A step that issues a transaction or does not, with the receiver in another state. -/
def issuedWithRx (x : LinkRx) (r : State × Bool) : State × Bool := (r.1.withRx x, r.2)

namespace State
variable (x : LinkRx) (s : State)

@[simp] theorem withRx_ite (c : Prop) [Decidable c] (t u : State) :
    (if c then t else u).withRx x = if c then t.withRx x else u.withRx x := apply_ite ..

@[simp] theorem handled_withRx_ite (c : Prop) [Decidable c] (t u : Handled) :
    (if c then t else u).withRx x = if c then t.withRx x else u.withRx x := apply_ite ..

@[simp] theorem issuedWithRx_ite (c : Prop) [Decidable c] (t u : State × Bool) :
    issuedWithRx x (if c then t else u) = if c then issuedWithRx x t else issuedWithRx x u := apply_ite ..

@[simp] theorem issuedWithRx_mk (b : Bool) : issuedWithRx x (s, b) = (s.withRx x, b) := rfl

@[simp] theorem grantStep_withRx_ite (c : Prop) [Decidable c] (t u : GrantStep) :
    (if c then t else u).withRx x = if c then t.withRx x else u.withRx x := apply_ite ..

@[simp] theorem withRx_again : (GrantStep.again s).withRx x = .again (s.withRx x) := rfl
@[simp] theorem withRx_issued : (GrantStep.issued s).withRx x = .issued (s.withRx x) := rfl

@[simp] theorem withRx_refuse (r : ResultCode) : (s.withRx x).refuse r = (s.refuse r).withRx x := rfl
@[simp] theorem withRx_ok (items : List Byte) : (s.withRx x).ok items = (s.ok items).withRx x := rfl
@[simp] theorem withRx_accepted (items : List Byte) : (s.withRx x).accepted items = (s.accepted items).withRx x := rfl

/-! ### What does not depend on it -/

@[simp] theorem withRx_engine (e : Engine) : (s.withRx x).engine e = s.engine e := by cases e <;> rfl
@[simp] theorem withRx_port (p : PortId) : (s.withRx x).port p = s.port p := by cases p <;> rfl
@[simp] theorem withRx_station (i : Fin 64) : (s.withRx x).station i = s.station i := rfl
@[simp] theorem withRx_attn (i : Fin 64) : (s.withRx x).attn i = s.attn i := rfl
@[simp] theorem withRx_descriptor (d : Fin 32) : (s.withRx x).descriptor d = s.descriptor d := rfl
@[simp] theorem withRx_claim (d : Fin 32) : (s.withRx x).claim d = s.claim d := rfl
@[simp] theorem withRx_pair (p : Fin 16) : (s.withRx x).pair p = s.pair p := rfl
@[simp] theorem withRx_arrangement : (s.withRx x).arrangement = s.arrangement := rfl
@[simp] theorem withRx_mask : (s.withRx x).mask = s.mask := rfl
@[simp] theorem withRx_demandLevel : (s.withRx x).demandLevel = s.demandLevel := rfl
@[simp] theorem withRx_enables : (s.withRx x).enables = s.enables := rfl
@[simp] theorem withRx_time : (s.withRx x).time = s.time := rfl
@[simp] theorem withRx_tx : (s.withRx x).tx = s.tx := rfl
@[simp] theorem withRx_replySlot : (s.withRx x).replySlot = s.replySlot := rfl
@[simp] theorem withRx_notices : (s.withRx x).notices = s.notices := rfl
@[simp] theorem withRx_stack : (s.withRx x).stack = s.stack := rfl
@[simp] theorem withRx_store : (s.withRx x).store = s.store := rfl
@[simp] theorem withRx_storeWp : (s.withRx x).storeWp = s.storeWp := rfl
@[simp] theorem withRx_serviceLevel : (s.withRx x).serviceLevel = s.serviceLevel := rfl
@[simp] theorem withRx_escalatedHead : (s.withRx x).escalatedHead = s.escalatedHead := rfl
@[simp] theorem withRx_escalationNotice (i : Fin 64) (o : Option Origin) :
    (s.withRx x).escalationNotice i o = s.escalationNotice i o := rfl
@[simp] theorem withRx_eligible (l : Fin 9) : (s.withRx x).eligible l = s.eligible l := rfl
@[simp] theorem withRx_inScope (e : Engine) (i : Fin 64) : (s.withRx x).inScope e i = s.inScope e i := rfl
@[simp] theorem withRx_urgentWork (e : Engine) (l : List (Fin 64)) : (s.withRx x).urgentWork e l = s.urgentWork e l := rfl
@[simp] theorem withRx_owedAcknowledge (e : Engine) (l : List (Fin 64)) :
    (s.withRx x).owedAcknowledge e l = s.owedAcknowledge e l := rfl
@[simp] theorem withRx_importantWork (e : Engine) (l : List (Fin 64)) :
    (s.withRx x).importantWork e l = s.importantWork e l := rfl
@[simp] theorem withRx_remainingWork (e : Engine) (l : List (Fin 64)) :
    (s.withRx x).remainingWork e l = s.remainingWork e l := rfl
@[simp] theorem withRx_sweepSearch (e : Engine) (l : List (Fin 64)) : (s.withRx x).sweepSearch e l = s.sweepSearch e l := by
  cases e <;> rfl
@[simp] theorem withRx_buildTransfer (i : Fin 64) (d : Fin 32) : (s.withRx x).buildTransfer i d = s.buildTransfer i d := rfl
@[simp] theorem withRx_build (i : Fin 64) (src : Source) (kind : ReqKind) (point : Word) (count : Byte) (data : List Word)
    (limit : Nat) : (s.withRx x).build i src kind point count data limit = s.build i src kind point count data limit := rfl
@[simp] theorem withRx_buildDemand (q : Demand) : (s.withRx x).buildDemand q = s.buildDemand q := rfl
@[simp] theorem withRx_buildFixed (n : Fin 128) (f : FixedFields) : (s.withRx x).buildFixed n f = s.buildFixed n f := rfl
@[simp] theorem withRx_buildProbe (n : Fin 128) (f : FixedFields) : (s.withRx x).buildProbe n f = s.buildProbe n f := rfl
@[simp] theorem withRx_refusesSlot (e : Engine) (f : FixedFields) : (s.withRx x).refusesSlot e f = s.refusesSlot e f := rfl
@[simp] theorem withRx_firstLine (e : Engine) (i : Fin 64) : (s.withRx x).firstLine e i = s.firstLine e i := rfl

/-! ### Writing records -/

@[simp] theorem withRx_withEngine (e : Engine) (f : EngineState → EngineState) :
    (s.withRx x).withEngine e f = (s.withEngine e f).withRx x := by cases e <;> rfl
@[simp] theorem withRx_withPort (p : PortId) (f : Port → Port) : (s.withRx x).withPort p f = (s.withPort p f).withRx x := by
  cases p <;> rfl
@[simp] theorem withRx_withStation (i : Fin 64) (f : Station → Station) :
    (s.withRx x).withStation i f = (s.withStation i f).withRx x := rfl
@[simp] theorem withRx_setAttn (i : Fin 64) (r : Attention) : (s.withRx x).setAttn i r = (s.setAttn i r).withRx x := rfl
@[simp] theorem withRx_setDescriptor (d : Fin 32) (r : Descriptor) :
    (s.withRx x).setDescriptor d r = (s.setDescriptor d r).withRx x := rfl
@[simp] theorem withRx_setClaim (d : Fin 32) (c : Option Engine) : (s.withRx x).setClaim d c = (s.setClaim d c).withRx x := rfl
@[simp] theorem withRx_setPair (p : Fin 16) (r : Pair) : (s.withRx x).setPair p r = (s.setPair p r).withRx x := rfl

/-! ### Notices -/

@[simp] theorem withRx_transmit : (s.withRx x).transmit = s.transmit.withRx x := by
  unfold transmit
  rw [withRx_tx]
  split
  · rfl
  · rw [withRx_replySlot]
    split
    · rfl
    · rw [withRx_notices]
      split <;> rfl

@[simp] theorem withRx_queueNotice (n : Notice) : (s.withRx x).queueNotice n = (s.queueNotice n).withRx x := by
  unfold queueNotice
  rw [withRx_ite]
  rfl

@[simp] theorem withRx_raise (n : Notice) : (s.withRx x).raise n = (s.raise n).withRx x := by simp [raise]
@[simp] theorem withRx_handOver (i : Fin 64) (o : Origin) : (s.withRx x).handOver i o = (s.handOver i o).withRx x := by
  simp [handOver]

/-! ### The Arbiter and the Station Table -/

@[simp] theorem withRx_escalationCheck (i : Fin 64) : (s.withRx x).escalationCheck i = (s.escalationCheck i).withRx x := by
  rw [escalationCheck, escalationCheck, withRx_ite]
  rfl
@[simp] theorem withRx_takeClass (i : Fin 64) (c : Fin 3) : (s.withRx x).takeClass i c = (s.takeClass i c).withRx x := by
  simp [takeClass]
@[simp] theorem withRx_takeStatus (i : Fin 64) (src : Source) (t : Status) :
    (s.withRx x).takeStatus i src t = (s.takeStatus i src t).withRx x := by
  unfold takeStatus
  rw [withRx_attn]
  split
  case h_6 => cases src <;> simp
  all_goals simp
@[simp] theorem withRx_offlineEffects (i : Fin 64) : (s.withRx x).offlineEffects i = (s.offlineEffects i).withRx x := by
  rw [offlineEffects, offlineEffects, withRx_ite]
  rfl
@[simp] theorem withRx_reevaluate (i : Fin 64) : (s.withRx x).reevaluate i = (s.reevaluate i).withRx x := by simp [reevaluate]
@[simp] theorem withRx_endAction (i : Fin 64) (a : EndAction) : (s.withRx x).endAction i a = (s.endAction i a).withRx x := rfl
@[simp] theorem withRx_stationNotice (i : Fin 64) (r : StationReason) :
    (s.withRx x).stationNotice i r = (s.stationNotice i r).withRx x := by simp [stationNotice]
@[simp] theorem withRx_lineChange (i : Fin 64) (p : PortId) : (s.withRx x).lineChange i p = (s.lineChange i p).withRx x := by
  simp [lineChange]
@[simp] theorem withRx_faultChange (i : Fin 64) (t : Status) (now : Stamp) :
    (s.withRx x).faultChange i t now = (s.faultChange i t now).withRx x := by simp [faultChange]
@[simp] theorem withRx_takeReply (i : Fin 64) (src : Source) (r : ReplyStatus) :
    (s.withRx x).takeReply i src r = (s.takeReply i src r).withRx x := by simp [takeReply]
@[simp] theorem withRx_healthUpdate (i : Fin 64) (o : LineOutcome) :
    (s.withRx x).healthUpdate i o = (s.healthUpdate i o).withRx x := by simp [healthUpdate]
@[simp] theorem withRx_probeToggle (i : Fin 64) (src : Source) (o : LineOutcome) :
    (s.withRx x).probeToggle i src o = (s.probeToggle i src o).withRx x := by
  cases src with
  | probe =>
    dsimp only [probeToggle]
    rw [withRx_ite]
    rfl
  | _ => rfl

theorem withRx_takeReplies (i : Fin 64) (src : Source) (rs : List ReplyStatus) :
    rs.foldl (fun u r => u.takeReply i src r) (s.withRx x) = (rs.foldl (fun u r => u.takeReply i src r) s).withRx x := by
  induction rs generalizing s with
  | nil => rfl
  | cons r rs ih => rw [List.foldl_cons, List.foldl_cons, withRx_takeReply, ih]

@[simp] theorem withRx_stationResults (t : Transaction) (o : LineOutcome) :
    (s.withRx x).stationResults t o = (s.stationResults t o).withRx x := by
  unfold stationResults
  dsimp only
  rw [withRx_takeReplies, withRx_healthUpdate, withRx_station, withRx_offlineEffects, ← withRx_ite, withRx_probeToggle,
    withRx_withStation]

/-! ### Transactions and an engine's stop -/

@[simp] theorem withRx_handAttempt (e : Engine) (t : Transaction) (line : Line) :
    (s.withRx x).handAttempt e t line = (s.handAttempt e t line).withRx x := by simp [handAttempt]
@[simp] theorem withRx_claimFor (e : Engine) (src : Source) : (s.withRx x).claimFor e src = (s.claimFor e src).withRx x := by
  cases src <;> rfl
@[simp] theorem withRx_issue (e : Engine) (t : Transaction) : (s.withRx x).issue e t = (s.issue e t).withRx x := by simp [issue]
@[simp] theorem withRx_endSweep (e : Engine) : (s.withRx x).endSweep e = (s.endSweep e).withRx x := by simp [endSweep]
@[simp] theorem withRx_demandNotice (e : Engine) (q : Demand) (o : LineOutcome) (n : Nat) (data : List Word) :
    (s.withRx x).demandNotice e q o n data = (s.demandNotice e q o n data).withRx x := by simp [demandNotice]
@[simp] theorem withRx_handOverResults (t : Transaction) (before : AttnState) :
    (s.withRx x).handOverResults t before = (s.handOverResults t before).withRx x := by simp [handOverResults]

theorem withRx_demandNotices (e : Engine) (qs : List Demand) :
    qs.foldl (fun u q => u.demandNotice e q .discarded 0 []) (s.withRx x) =
      (qs.foldl (fun u q => u.demandNotice e q .discarded 0 []) s).withRx x := by
  induction qs generalizing s with
  | nil => rfl
  | cons q qs ih => rw [List.foldl_cons, List.foldl_cons, withRx_demandNotice, ih]

@[simp] theorem withRx_discardDemands (e : Engine) : (s.withRx x).discardDemands e = (s.discardDemands e).withRx x := by
  rw [discardDemands, withRx_engine, withRx_withEngine, withRx_demandNotices]
  rfl
@[simp] theorem withRx_stopEngine (e : Engine) (m : StopMode) : (s.withRx x).stopEngine e m = (s.stopEngine e m).withRx x := by
  unfold stopEngine
  dsimp only
  rw [withRx_withEngine, withRx_discardDemands, ← withRx_ite, withRx_engine, withRx_raise]
@[simp] theorem withRx_abortCompletion (e : Engine) (t : Transaction) :
    (s.withRx x).abortCompletion e t = (s.abortCompletion e t).withRx x := by
  unfold abortCompletion
  split <;> simp
@[simp] theorem withRx_abortTransaction (e : Engine) (t : Transaction) :
    (s.withRx x).abortTransaction e t = (s.abortTransaction e t).withRx x := by simp [abortTransaction]
@[simp] theorem withRx_abortEngine (e : Engine) : (s.withRx x).abortEngine e = (s.abortEngine e).withRx x := by
  unfold abortEngine
  rw [withRx_engine]
  split <;> simp
@[simp] theorem withRx_setStopping (e : Engine) (m : StopMode) :
    (s.withRx x).setStopping e m = (s.setStopping e m).withRx x := by cases m <;> simp [setStopping]

/-! ### Grants and slots -/

@[simp] theorem withRx_grantDescriptor (e : Engine) (i : Fin 64) :
    (s.withRx x).grantDescriptor e i = (s.grantDescriptor e i).withRx x := by simp [grantDescriptor]
@[simp] theorem withRx_grantAcknowledge (e : Engine) (i : Fin 64) :
    (s.withRx x).grantAcknowledge e i = (s.grantAcknowledge e i).withRx x := by simp [grantAcknowledge]
theorem withRx_serveDemands (e : Engine) (qs : List Demand) :
    (s.withRx x).serveDemands e qs = issuedWithRx x (s.serveDemands e qs) := by
  induction qs generalizing s with
  | nil => rfl
  | cons q qs ih => simp [serveDemands, ih]
@[simp] theorem withRx_demandStep (e : Engine) : (s.withRx x).demandStep e = issuedWithRx x (s.demandStep e) := by
  simp [demandStep, withRx_serveDemands]
@[simp] theorem withRx_grantSweep (e : Engine) (i : Fin 64) : (s.withRx x).grantSweep e i = (s.grantSweep e i).withRx x := by
  simp [grantSweep]
@[simp] theorem withRx_sweepStep (e : Engine) (l : List (Fin 64)) :
    (s.withRx x).sweepStep e l = issuedWithRx x (s.sweepStep e l) := by
  unfold sweepStep
  rw [withRx_engine, withRx_sweepSearch]
  split
  · split <;> simp
  · rfl

theorem withRx_grantFrom (e : Engine) (n : Nat) (l : List (Fin 64)) :
    grantFrom n e l (s.withRx x) = issuedWithRx x (grantFrom n e l s) := by
  induction n generalizing l s with
  | zero => rfl
  | succ n ih =>
    unfold grantFrom
    simp only [withRx_urgentWork, withRx_owedAcknowledge, withRx_importantWork, withRx_demandStep, withRx_grantDescriptor]
    have looked (t : State) (i : Fin 64) :
        (match (t.grantDescriptor e i).withRx x with
          | .again u => grantFrom n e (i :: l) u
          | .issued u => (u, true)) =
        issuedWithRx x (match t.grantDescriptor e i with
          | .again u => grantFrom n e (i :: l) u
          | .issued u => (u, true)) := by
      cases t.grantDescriptor e i with
      | again u => exact ih ..
      | issued u => rfl
    cases s.urgentWork e l with
    | some i => exact looked s i
    | none =>
      cases s.owedAcknowledge e l with
      | some i => exact congrArg (·, true) (withRx_grantAcknowledge x s e i)
      | none =>
        cases s.importantWork e l with
        | some i => exact looked s i
        | none =>
          obtain ⟨t, _ | _⟩ := s.demandStep e
          · dsimp only [issuedWithRx_mk]
            rw [withRx_remainingWork]
            cases t.remainingWork e l with
            | some i =>
              dsimp only
              rw [withRx_grantDescriptor]
              exact looked t i
            | none => exact withRx_sweepStep ..
          · rfl

@[simp] theorem withRx_grant (e : Engine) : (s.withRx x).grant e = issuedWithRx x (s.grant e) := withRx_grantFrom x s e _ _
@[simp] theorem withRx_tally (e : Engine) (f : Tallies → Tallies) : (s.withRx x).tally e f = (s.tally e f).withRx x := by
  simp [tally]
@[simp] theorem withRx_nextSlot (e : Engine) : (s.withRx x).nextSlot e = (s.nextSlot e).withRx x := by simp [nextSlot]
@[simp] theorem withRx_setActivity (e : Engine) (a : Activity) :
    (s.withRx x).setActivity e a = (s.setActivity e a).withRx x := by simp [setActivity]
@[simp] theorem withRx_startSlot (e : Engine) (n : Fin 128) (sl : Slot) :
    (s.withRx x).startSlot e n sl = issuedWithRx x (s.startSlot e n sl) := by
  unfold startSlot
  split
  · simp
  · rw [withRx_grant]
    rcases s.grant e with ⟨t, _ | _⟩ <;> simp

theorem withRx_takeNext (e : Engine) {onward : State → State} (h : ∀ u, onward (u.withRx x) = (onward u).withRx x) :
    (s.withRx x).takeNext e onward = (s.takeNext e onward).withRx x := by
  unfold takeNext
  simp only [withRx_engine, withRx_tally, withRx_nextSlot, withRx_setActivity, withRx_startSlot, issuedWithRx, h]
  split
  · simp only [withRx_ite]
  · rfl

theorem withRx_takeFrom (e : Engine) (n : Nat) : takeFrom n e (s.withRx x) = (takeFrom n e s).withRx x := by
  induction n generalizing s with
  | zero => rfl
  | succ n ih => rw [takeFrom_succ, takeFrom_succ, withRx_takeNext x s e ih]

@[simp] theorem withRx_takeSlots (e : Engine) : (s.withRx x).takeSlots e = (s.takeSlots e).withRx x := withRx_takeFrom x s e _
@[simp] theorem withRx_startEngine (e : Engine) : (s.withRx x).startEngine e = (s.startEngine e).withRx x := by
  simp [startEngine]

/-! ### What the requests do to the configuration, the stack and the store -/

@[simp] theorem withRx_maskRecord (i : Fin 64) : (s.withRx x).maskRecord i = (s.maskRecord i).withRx x := by
  have escalates : (s.withRx x).maskEscalates i = s.maskEscalates i := rfl
  simp [maskRecord, escalates]
theorem withRx_maskRecords (l : List (Fin 64)) :
    l.foldl maskRecord (s.withRx x) = (l.foldl maskRecord s).withRx x := by
  induction l generalizing s with
  | nil => rfl
  | cons i l ih => rw [List.foldl_cons, List.foldl_cons, withRx_maskRecord, ih]
@[simp] theorem withRx_maskSet : (s.withRx x).maskSet = s.maskSet.withRx x := withRx_maskRecords x s _
@[simp] theorem withRx_reconfigure (i : Fin 64) : (s.withRx x).reconfigure i = (s.reconfigure i).withRx x := by
  simp [reconfigure]
@[simp] theorem withRx_rearrange (a : Arrangement) : (s.withRx x).rearrange a = (s.rearrange a).withRx x := by
  have renewed : ({ s.withRx x with arrangement := a, stations := (s.withRx x).stations.map Station.rearranged } : State) =
    ({ s with arrangement := a, stations := s.stations.map Station.rearranged } : State).withRx x := rfl
  unfold rearrange
  rw [renewed]
  simp
@[simp] theorem withRx_releaseStation (i : Fin 64) : (s.withRx x).releaseStation i = (s.releaseStation i).withRx x := by
  rw [releaseStation, releaseStation, withRx_ite]
  rfl
@[simp] theorem withRx_reoffer : (s.withRx x).reoffer = s.reoffer.withRx x := by
  unfold reoffer
  rw [withRx_escalatedHead]
  split <;> simp
@[simp] theorem withRx_endStore (save : Bool) (o : StoreOutcome) (im : ImageState) :
    (s.withRx x).endStore save o im = (s.endStore save o im).withRx x :=
  withRx_raise x { s with store := .idle, imageState := im } _
@[simp] theorem withRx_cancelStore (pin : Bool) : (s.withRx x).cancelStore pin = (s.cancelStore pin).withRx x :=
  withRx_endStore x { s with region := s.cancelledRegion } ..
@[simp] theorem withRx_beginStore (op : StoreOp) : (s.withRx x).beginStore op = (s.beginStore op).withRx x := rfl
@[simp] theorem withRx_withShadow (e : Engine) (f : Bank → Bank) :
    (s.withRx x).withShadow e f = (s.withShadow e f).withRx x := by simp [withShadow]

/-! ### The requests -/

@[simp] theorem withRx_doIdentify : (s.withRx x).doIdentify = s.doIdentify.withRx x := rfl
@[simp] theorem withRx_doGetStatus : (s.withRx x).doGetStatus = s.doGetStatus.withRx x := rfl
@[simp] theorem withRx_doRestart : (s.withRx x).doRestart = s.doRestart.withRx x := rfl
@[simp] theorem withRx_doTimeSet (v : Stamp) : (s.withRx x).doTimeSet v = (s.doTimeSet v).withRx x := rfl
@[simp] theorem withRx_doPartGet : (s.withRx x).doPartGet = s.doPartGet.withRx x := rfl
@[simp] theorem withRx_doPartSet (a b c : Byte) : (s.withRx x).doPartSet a b c = (s.doPartSet a b c).withRx x := by
  unfold doPartSet
  split
  · rename_i m d _ _
    have written : ({ s.withRx x with mask := m, demandLevel := d, enables := .ofByte c } : State) =
      ({ s with mask := m, demandLevel := d, enables := .ofByte c } : State).withRx x := rfl
    dsimp only
    rw [written, withRx_maskSet, withRx_mask, ← withRx_ite, withRx_ok]
  · rfl
@[simp] theorem withRx_doArrange (a : Byte) : (s.withRx x).doArrange a = (s.doArrange a).withRx x := by
  unfold doArrange
  split
  · simp only [withRx_rearrange, withRx_ok, withRx_refuse, handled_withRx_ite]
    rfl
  · rfl
@[simp] theorem withRx_doPortSet (p : Byte) (l : List Byte) : (s.withRx x).doPortSet p l = (s.doPortSet p l).withRx x := by
  unfold doPortSet
  split <;> simp
@[simp] theorem withRx_doPortGet (p : Byte) : (s.withRx x).doPortGet p = (s.doPortGet p).withRx x := by
  unfold doPortGet
  split <;> simp
@[simp] theorem withRx_doLineStart (e : Byte) : (s.withRx x).doLineStart e = (s.doLineStart e).withRx x := by
  unfold doLineStart
  split <;> simp
@[simp] theorem withRx_doLineStop (e m : Byte) : (s.withRx x).doLineStop e m = (s.doLineStop e m).withRx x := by
  unfold doLineStop
  split
  · rw [withRx_engine]
    split <;> simp
  · rfl
@[simp] theorem withRx_doLineStatus (e : Byte) : (s.withRx x).doLineStatus e = (s.doLineStatus e).withRx x := by
  unfold doLineStatus
  split <;> simp
@[simp] theorem withRx_doStationSet (i : Byte) (l : List Byte) :
    (s.withRx x).doStationSet i l = (s.doStationSet i l).withRx x := by
  unfold doStationSet
  split
  · simp only [withRx_withStation, withRx_reconfigure, withRx_ok, withRx_refuse, handled_withRx_ite]
    rfl
  · rfl
@[simp] theorem withRx_doStationGet (i : Byte) : (s.withRx x).doStationGet i = (s.doStationGet i).withRx x := by
  unfold doStationGet
  split <;> rfl
@[simp] theorem withRx_doSlotSet (e n : Byte) (l : List Byte) :
    (s.withRx x).doSlotSet e n l = (s.doSlotSet e n l).withRx x := by
  unfold doSlotSet
  split <;> simp
@[simp] theorem withRx_doSlotGet (e b n : Byte) : (s.withRx x).doSlotGet e b n = (s.doSlotGet e b n).withRx x := by
  unfold doSlotGet
  split <;> simp
@[simp] theorem withRx_doBankHeaderSet (e : Byte) (l : List Byte) :
    (s.withRx x).doBankHeaderSet e l = (s.doBankHeaderSet e l).withRx x := by
  unfold doBankHeaderSet
  split <;> simp
@[simp] theorem withRx_doBankHeaderGet (e b : Byte) : (s.withRx x).doBankHeaderGet e b = (s.doBankHeaderGet e b).withRx x := by
  unfold doBankHeaderGet
  split <;> simp
@[simp] theorem withRx_doBankCopy (e : Byte) : (s.withRx x).doBankCopy e = (s.doBankCopy e).withRx x := by
  unfold doBankCopy
  split <;> simp
@[simp] theorem withRx_doBankSwap (e a : Byte) : (s.withRx x).doBankSwap e a = (s.doBankSwap e a).withRx x := by
  unfold doBankSwap
  split <;> simp
@[simp] theorem withRx_doDescriptorSet (d : Byte) (l : List Byte) :
    (s.withRx x).doDescriptorSet d l = (s.doDescriptorSet d l).withRx x := by
  unfold doDescriptorSet
  split <;> simp <;> rfl
@[simp] theorem withRx_doDescriptorGet (d : Byte) : (s.withRx x).doDescriptorGet d = (s.doDescriptorGet d).withRx x := by
  have subject (o : Option Engine) : (s.withRx x).subjectByte o = s.subjectByte o := by cases o <;> simp [subjectByte]
  unfold doDescriptorGet
  split <;> simp [subject]
@[simp] theorem withRx_doPairSet (p d : Byte) : (s.withRx x).doPairSet p d = (s.doPairSet p d).withRx x := by
  unfold doPairSet
  split
  · simp only [withRx_setPair, withRx_ok, withRx_refuse, handled_withRx_ite]
    rfl
  · rfl
@[simp] theorem withRx_doPairGet (p : Byte) : (s.withRx x).doPairGet p = (s.doPairGet p).withRx x := by
  unfold doPairGet
  split <;> simp
@[simp] theorem withRx_doPairRead (p k n : Byte) : (s.withRx x).doPairRead p k n = (s.doPairRead p k n).withRx x := by
  unfold doPairRead
  split <;> simp
@[simp] theorem withRx_doPairWrite (p k : Byte) (ws : List Word) :
    (s.withRx x).doPairWrite p k ws = (s.doPairWrite p k ws).withRx x := by
  unfold doPairWrite
  split <;> simp <;> rfl
@[simp] theorem withRx_doPairRelease (p : Byte) : (s.withRx x).doPairRelease p = (s.doPairRelease p).withRx x := by
  unfold doPairRelease
  split <;> simp <;> rfl
@[simp] theorem withRx_doPairCommit (p : Byte) : (s.withRx x).doPairCommit p = (s.doPairCommit p).withRx x := by
  unfold doPairCommit
  split <;> simp <;> rfl
@[simp] theorem withRx_doDemand (tag e i k : Byte) (p : Word) (c : Byte) (ws : List Word) :
    (s.withRx x).doDemand tag e i k p c ws = (s.doDemand tag e i k p c ws).withRx x := by
  unfold doDemand
  rw [handled_withRx_ite]
  refine ite_congr rfl (fun _ => rfl) fun _ => ?_
  split <;> simp [queueDemand]
@[simp] theorem withRx_doTake : (s.withRx x).doTake = s.doTake.withRx x := by
  unfold doTake
  rw [withRx_escalatedHead, handled_withRx_ite]
  refine ite_congr rfl (fun _ => rfl) fun _ => ?_
  split
  · rw [handled_withRx_ite]
    rfl
  · rfl
@[simp] theorem withRx_doDone : (s.withRx x).doDone = s.doDone.withRx x := by
  unfold doDone
  rw [withRx_stack]
  split
  · rfl
  · rename_i top rest _
    have popped : ({ s.withRx x with stack := rest } : State) = ({ s with stack := rest } : State).withRx x := rfl
    dsimp only
    rw [popped, withRx_releaseStation, withRx_reoffer, withRx_ok]
    rfl
@[simp] theorem withRx_doStoreSave (a b : Byte) : (s.withRx x).doStoreSave a b = (s.doStoreSave a b).withRx x := by
  have snap (p q : Bool) : (s.withRx x).snapshot p q = s.snapshot p q := rfl
  unfold doStoreSave
  split <;> simp [snap]
@[simp] theorem withRx_doStoreErase : (s.withRx x).doStoreErase = s.doStoreErase.withRx x := by
  simp only [doStoreErase, withRx_storeWp, withRx_store, withRx_beginStore, withRx_accepted, withRx_refuse, handled_withRx_ite]
  rfl
@[simp] theorem withRx_doStoreCancel : (s.withRx x).doStoreCancel = s.doStoreCancel.withRx x := by simp [doStoreCancel]

theorem withRx_handlePairWrite (p k : Byte) (l : List Byte) :
    (s.withRx x).handlePairWrite p k l = (s.handlePairWrite p k l).withRx x := by
  unfold handlePairWrite
  split <;> simp
theorem withRx_handleDemand (tag e i k p1 p0 c : Byte) (l : List Byte) :
    (s.withRx x).handleDemand tag e i k p1 p0 c l = (s.handleDemand tag e i k p1 p0 c l).withRx x := by
  unfold handleDemand
  split <;> simp

/-- What a request does is the same in every state of the receiver. -/
theorem withRx_handle (f : Frame) : (s.withRx x).handle f = (s.handle f).withRx x := by
  unfold handle
  split
  case h_35 => rfl
  all_goals split <;> simp [withRx_handlePairWrite, withRx_handleDemand]

theorem withRx_placeReply (f : Frame) (r : Reply) (tx : Option Transmission) :
    (s.withRx x).placeReply f r tx = (s.placeReply f r tx).withRx x :=
  withRx_transmit x { s with processing := some f, replySlot := some (f.answer r), tx := tx }

/-- A dispatch is the same in every state of the receiver. -/
theorem withRx_dispatch (f : Frame) : (s.withRx x).dispatch f = (s.dispatch f).withRx x := by
  have reserved : (s.withRx x).reserveTx f = (s.reserveTx f).withRx x := rfl
  unfold dispatch
  dsimp only
  rw [reserved, withRx_handle]
  exact withRx_placeReply ..

end State

/-! ### The end of a frame -/

/-- The end of a reply that answers no RESTART, with no request held: the transmitter chooses. -/
theorem State.replyEnds_free {s : State} {g : Frame} (hp : s.processing = some g) (hg : ¬ (g.kind = 0x03 ∧ g.payload = []))
    (hh : s.held = none) : s.replyEnds = ({ s with processing := none, tx := none } : State).transmit := by
  have other : ¬ s.processing.any Frame.isRestart = true := by simpa [hp, Frame.isRestart] using hg
  unfold State.replyEnds
  dsimp only
  rw [if_neg other, hh]

/-- The end of a reply that answers no RESTART, with a request held: it is dispatched. -/
theorem State.replyEnds_held {s : State} {g h : Frame} (hp : s.processing = some g) (hg : ¬ (g.kind = 0x03 ∧ g.payload = []))
    (hh : s.held = some h) :
    s.replyEnds = ({ s with processing := none, held := none, tx := none } : State).dispatch h := by
  have other : ¬ s.processing.any Frame.isRestart = true := by simpa [hp, Frame.isRestart] using hg
  unfold State.replyEnds
  dsimp only
  rw [if_neg other, hh]

/-- A request held is dispatched as one that arrives then, but for the receiver, which is left in the middle of its frame. -/
theorem State.replyEnds_arrives {s : State} {g h : Frame} (hp : s.processing = some g)
    (hg : ¬ (g.kind = 0x03 ∧ g.payload = [])) (hh : s.held = some h) (hl : h.payload.length ≤ 250) :
    s.replyEnds = { ({ s with processing := none, held := none, tx := none } : State).receiveFrame h with rx := s.rx } := by
  have free : ({ s with processing := none, held := none, tx := none } : State) =
    ({ s with rx := .hunting, processing := none, held := none, tx := none } : State).withRx s.rx := rfl
  rw [State.replyEnds_held hp hg hh, State.receiveFrame_short _ hl, free, State.withRx_dispatch]
  rfl

theorem exec_replySent {s : State} {r : Frame} {us : Nat} (h : s.tx = some ⟨.reply r, us⟩) :
    exec .replySent s = .next s.replyEnds := by
  change execReplySent s = _
  rw [execReplySent, h]

theorem exec_replySent_of_none {s : State} (h : ∀ r us, s.tx ≠ some ⟨.reply r, us⟩) : exec .replySent s = .next s := by
  change execReplySent s = _
  unfold execReplySent
  split
  · exact absurd ‹_› (h _ _)
  all_goals rfl

theorem exec_noticeSent {s : State} {n : Raised} {us : Nat} (h : s.tx = some ⟨.notice n, us⟩) :
    exec .noticeSent s = .next ({ s with tx := none } : State).transmit := by
  change execNoticeSent s = _
  rw [execNoticeSent, h]

theorem exec_noticeSent_of_none {s : State} (h : ∀ n us, s.tx ≠ some ⟨.notice n, us⟩) : exec .noticeSent s = .next s := by
  change execNoticeSent s = _
  unfold execNoticeSent
  split
  · exact absurd ‹_› (h _ _)
  all_goals rfl

/-! What a free transmitter chooses. -/

theorem State.transmit_reply {s : State} {f : Frame} (ht : s.tx = none) (h : s.replySlot = some f) :
    s.transmit = { s with tx := some ⟨.reply f, 0⟩, replySlot := none } := by
  rw [State.transmit, ht, h]

theorem State.transmit_notice {s : State} {n : Raised} {rest : List Raised} (ht : s.tx = none) (hr : s.replySlot = none)
    (h : s.notices = n :: rest) : s.transmit = { s with tx := some ⟨.notice n, 0⟩, notices := rest } := by
  rw [State.transmit, ht, hr, h]

theorem State.transmit_nothing {s : State} (ht : s.tx = none) (hr : s.replySlot = none) (h : s.notices = []) :
    s.transmit = s := by
  rw [State.transmit, ht, hr, h]

/-- Settles O7: the end of a notice and of a reply by what `State.transmit` chooses, a held request by
`State.replyEnds_arrives`. -/
theorem transmitterChoosesAfterEachFrame : Obligations.TransmitterChoosesAfterEachFrame := by
  refine ⟨fun s => ⟨fun n us ht => ⟨fun f hf => ?_, fun m rest hr hn => ?_, fun hr hn => ?_⟩, exec_noticeSent_of_none⟩,
    fun s r g us ht hp hg => ⟨fun hh hr => ?_, fun i h hh hi hw => ?_, fun h hh hl => ?_⟩,
    fun s => exec_replySent_of_none, fun s f r tx => ⟨?_, ?_, ?_⟩⟩
  · exact (exec_noticeSent ht).trans (congrArg _ (State.transmit_reply rfl hf))
  · exact (exec_noticeSent ht).trans (congrArg _ (State.transmit_notice rfl hr hn))
  · exact (exec_noticeSent ht).trans (congrArg _ (State.transmit_nothing rfl hr hn))
  · refine (exec_replySent ht).trans (congrArg _ ((State.replyEnds_free hp hg hh).trans ?_))
    split
    · exact State.transmit_notice rfl hr ‹_›
    · exact State.transmit_nothing rfl hr ‹_›
  · refine ⟨_, exec_of_requestFrame hi _, ?_⟩
    rw [exec_replySent ht, State.replyEnds_arrives hp hg hh (length_le_of_requestFrame hi hw)]
  · refine ⟨_, exec_wire hl rfl, ?_⟩
    rw [exec_replySent ht, State.replyEnds_arrives hp hg hh hl]
    rfl
  · rw [State.inDispatch, State.reserveTx]
    rcases ht : s.tx with _ | y <;> rfl
  · rintro rfl
    exact State.transmit_reply rfl rfl
  · intro ht
    obtain ⟨y, rfl⟩ := Option.ne_none_iff_exists'.mp ht
    rfl

end Sys2Proof.Machine
end

section
/-!
A reset on a region that holds a valid image (O35): its engines start with no attention, no demand and no call to serve, so what
they do at once is to issue FIXED slots.
-/

namespace Sys2Proof.Machine

/-! ### Slots with nothing to grant -/

/-- Nothing waits for a grant of an engine: no attention, no demand and no call. -/
structure State.NothingToGrant (s : State) (e : Engine) : Prop where
  attn : ∀ i, s.attn i = .none
  demands : (s.engine e).demands = []
  callPending : (s.engine e).callPending = false

theorem State.NothingToGrant.grant {s : State} {e : Engine} (h : s.NothingToGrant e) : s.grant e = (s, false) := by
  have idle (i : Fin 64) : (s.attn i).state = .clear := by rw [h.attn i]; rfl
  have work (i : Fin 64) : s.hasWork e [] i = false := by simp [State.hasWork, idle i]
  have urgent : s.urgentWork e [] = none := lowest_eq_none fun i => by simp [work i]
  have owed : s.owedAcknowledge e [] = none := lowest_eq_none fun i => by simp [idle i]
  have important : s.importantWork e [] = none := highest_eq_none _ fun i => by simp [work i]
  have remaining : s.remainingWork e [] = none := highest_eq_none _ fun i => by simp [work i]
  have demand : s.demandStep e = (s, false) := by
    rw [State.demandStep, h.demands]
    exact ite_self _
  have sweep : s.sweepStep e [] = (s, false) := by rw [State.sweepStep, h.callPending]; rfl
  rw [State.grant, State.grantOrder, List.length_nil, Nat.sub_zero, State.grantFrom, urgent, owed, important, demand]
  dsimp only
  rw [remaining]
  exact sweep

/-- What stays while an engine with nothing to grant takes slots: the queues of the link and of the engines, the claims, the
attention records, and all of a port and of a station but the attempt and the transaction. -/
structure SlotsTaken (s t : State) : Prop where
  tx : t.tx = s.tx
  replySlot : t.replySlot = s.replySlot
  notices : t.notices = s.notices
  overrun : t.overrun = s.overrun
  claims : t.claims = s.claims
  attn : ∀ i, t.attn i = s.attn i
  demands : ∀ e, (t.engine e).demands = (s.engine e).demands
  callPending : ∀ e, (t.engine e).callPending = (s.engine e).callPending
  settings : ∀ p, (t.port p).settings = (s.port p).settings
  config : ∀ i, (t.station i).config = (s.station i).config
  line : ∀ i, (t.station i).line = (s.station i).line
  health : ∀ i, (t.station i).health = (s.station i).health
  failCount : ∀ i, (t.station i).failCount = (s.station i).failCount

namespace SlotsTaken

theorem refl (s : State) : SlotsTaken s s :=
  ⟨rfl, rfl, rfl, rfl, rfl, fun _ => rfl, fun _ => rfl, fun _ => rfl, fun _ => rfl, fun _ => rfl, fun _ => rfl, fun _ => rfl,
    fun _ => rfl⟩

theorem trans {s t u : State} (h : SlotsTaken s t) (k : SlotsTaken t u) : SlotsTaken s u where
  tx := k.tx.trans h.tx
  replySlot := k.replySlot.trans h.replySlot
  notices := k.notices.trans h.notices
  overrun := k.overrun.trans h.overrun
  claims := k.claims.trans h.claims
  attn i := (k.attn i).trans (h.attn i)
  demands e := (k.demands e).trans (h.demands e)
  callPending e := (k.callPending e).trans (h.callPending e)
  settings p := (k.settings p).trans (h.settings p)
  config i := (k.config i).trans (h.config i)
  line i := (k.line i).trans (h.line i)
  health i := (k.health i).trans (h.health i)
  failCount i := (k.failCount i).trans (h.failCount i)

theorem nothingToGrant {s t : State} {e : Engine} (h : SlotsTaken s t) (k : s.NothingToGrant e) : t.NothingToGrant e :=
  ⟨fun i => (h.attn i).trans (k.attn i), (h.demands e).trans k.demands, (h.callPending e).trans k.callPending⟩

/-- A change of one engine that leaves its demands and its call. -/
theorem withEngine (s : State) {e : Engine} {f : EngineState → EngineState} (hd : ∀ en, (f en).demands = en.demands)
    (hc : ∀ en, (f en).callPending = en.callPending) : SlotsTaken s (s.withEngine e f) := by
  have both (x : Engine) : ((s.withEngine e f).engine x).demands = (s.engine x).demands ∧
      ((s.withEngine e f).engine x).callPending = (s.engine x).callPending := by
    by_cases hx : x = e
    · subst hx
      rw [State.withEngine_engine]
      exact ⟨hd _, hc _⟩
    · rw [State.withEngine_engine_other _ _ hx]
      exact ⟨rfl, rfl⟩
  constructor
  case demands => exact fun x => (both x).1
  case callPending => exact fun x => (both x).2
  all_goals cases e <;> intros <;> rfl

theorem withPort (s : State) {p : PortId} {f : Port → Port} (hf : ∀ x, (f x).settings = x.settings) :
    SlotsTaken s (s.withPort p f) := by
  constructor
  case settings =>
    intro x
    by_cases hx : x = p
    · rw [hx, State.withPort_port]
      exact hf _
    · rw [State.withPort_port_other _ _ hx]
  all_goals cases p <;> intros <;> rfl

/-- A station's mark of its transaction. -/
theorem mark (s : State) (i : Fin 64) (o : Option Engine) :
    SlotsTaken s (s.withStation i fun st => { st with inTransaction := o }) := by
  have kept (j : Fin 64) : ∃ o', (s.withStation i fun st => { st with inTransaction := o }).station j =
      { s.station j with inTransaction := o' } := by
    by_cases hj : j = i
    · exact ⟨o, by rw [hj, State.withStation_station]⟩
    · exact ⟨(s.station j).inTransaction, by rw [State.withStation_station_other _ _ hj]⟩
  constructor
  case config => exact fun j => by obtain ⟨_, h⟩ := kept j; rw [h]
  case line => exact fun j => by obtain ⟨_, h⟩ := kept j; rw [h]
  case health => exact fun j => by obtain ⟨_, h⟩ := kept j; rw [h]
  case failCount => exact fun j => by obtain ⟨_, h⟩ := kept j; rw [h]
  all_goals intros; rfl

/-- The issue of anything but a transfer. -/
theorem issue (s : State) {e : Engine} {t : Transaction} (ht : ∀ u : State, u.claimFor e t.source = u) :
    SlotsTaken s (s.issue e t) := by
  unfold State.issue State.handAttempt
  dsimp only
  rw [ht]
  refine trans (trans (trans (mark s _ _) (withEngine _ ?_ ?_)) (withEngine _ ?_ ?_)) (withPort _ (Port.take_settings · _))
  all_goals exact fun _ => rfl

variable {s : State} {e : Engine}

theorem tally (s : State) (e : Engine) (f : Tallies → Tallies) : SlotsTaken s (s.tally e f) :=
  withEngine s (fun _ => rfl) fun _ => rfl

theorem nextSlot (s : State) (e : Engine) : SlotsTaken s (s.nextSlot e) := withEngine s (fun _ => rfl) fun _ => rfl

theorem setActivity (s : State) (e : Engine) (a : Activity) : SlotsTaken s (s.setActivity e a) :=
  withEngine s (fun _ => rfl) fun _ => rfl

theorem startSlot (h : s.NothingToGrant e) (n : Fin 128) (sl : Slot) : SlotsTaken s (s.startSlot e n sl).1 := by
  cases hf : sl.fixed with
  | none =>
    rw [State.startSlot_attention s e n hf, h.grant]
    exact tally ..
  | some f =>
    rw [State.startSlot, hf]
    dsimp only
    split
    · exact tally ..
    · split
      · exact (tally ..).trans (issue _ fun _ => rfl)
      · exact (tally ..).trans (issue _ fun _ => rfl)

theorem takeNext (h : s.NothingToGrant e) {onward : State → State}
    (hon : ∀ {u : State}, u.NothingToGrant e → SlotsTaken u (onward u)) : SlotsTaken s (s.takeNext e onward) := by
  have goesOn {u : State} (k : SlotsTaken s u) : SlotsTaken s (onward (u.nextSlot e)) :=
    have left := k.trans (nextSlot u e)
    left.trans (hon (left.nothingToGrant h))
  unfold State.takeNext
  dsimp only
  split
  · split
    · split
      · exact goesOn (tally ..)
      split
      · exact setActivity ..
      split
      · exact goesOn (tally ..)
      split
      · exact setActivity ..
      split
      · exact startSlot h ..
      · exact goesOn (startSlot h ..)
    · exact setActivity ..
  · exact setActivity ..

theorem takeFrom (n : Nat) {s : State} (h : s.NothingToGrant e) : SlotsTaken s (State.takeFrom n e s) := by
  induction n generalizing s with
  | zero => exact refl s
  | succ n ih => exact State.takeFrom_succ n e s ▸ takeNext h ih

theorem takeSlots (h : s.NothingToGrant e) : SlotsTaken s (s.takeSlots e) := takeFrom _ h

end SlotsTaken

/-! ### An image at work (R169, R170) -/

/-- The bank of an image for an engine. -/
def Image.bankFor (m : Image) : Engine → Bank
  | .a => ⟨m.headerA, m.slotsA⟩
  | .b => ⟨m.headerB, m.slotsB⟩

/-- The settings of an image for a port. -/
def Image.portFor (m : Image) : PortId → PortSettings
  | .a => m.portA
  | .b => m.portB

/-- An engine after a reset, with its banks taken from an image. -/
def Image.loaded (m : Image) (e : Engine) : EngineState :=
  { EngineState.reset with bankX := m.bankFor e, bankY := m.bankFor e }

/-- An engine that an autostart makes RUNNING. -/
def EngineState.begun (period : Word) (en : EngineState) : EngineState :=
  { en with run := .running, timer := some ⟨period, 0⟩ }

/-- The part after a reset that applied an image, with STARTED not yet raised, when the engines that `runs` says have been
started. -/
structure State.Applied (m : Image) (r : Region) (runs : Engine → Bool) (t : State) : Prop where
  tx : t.tx = none
  replySlot : t.replySlot = none
  notices : t.notices = []
  overrun : t.overrun = false
  time : t.time = 0
  stopped : ∀ e, runs e = false → t.engine e = m.loaded e
  running : ∀ e, runs e = true → (t.engine e).plan = ((m.loaded e).begun (m.bankFor e).header.period).plan
  demands : ∀ e, (t.engine e).demands = []
  callPending : ∀ e, (t.engine e).callPending = false
  arrangement : t.arrangement = m.arrangement
  mask : t.mask = m.mask
  demandLevel : t.demandLevel = m.demandLevel
  enables : t.enables = m.enables
  settings : ∀ p, (t.port p).settings = m.portFor p
  config : ∀ i : Fin 64, (t.station i).config = m.stations[i]
  line : ∀ i : Fin 64, (t.station i).line = m.stations[i].home
  health : ∀ i, (t.station i).health = .online
  failCount : ∀ i, (t.station i).failCount = 0
  attn : ∀ i, t.attn i = .none
  descriptors : t.descriptors = m.descriptors
  claims : t.claims = Vector.replicate 32 none
  pairs : t.pairs = m.directions.map Pair.init
  stack : t.stack = []
  region : t.region = r
  imageState : t.imageState = .valid
  startSource : t.startSource = .image

namespace State.Applied
section
variable {m : Image} {r : Region} {runs : Engine → Bool} {t : State} {e : Engine}

theorem nothingToGrant (h : t.Applied m r runs) (e : Engine) : t.NothingToGrant e := ⟨h.attn, h.demands e, h.callPending e⟩

/-- The changes of LINE-START leave most of a stopped engine at its reset values. -/
theorem startEngine_eq (h : t.Applied m r runs) (he : runs e = false) :
    t.startEngine e = (t.withEngine e (EngineState.begun (m.bankFor e).header.period)).takeSlots e := by
  rw [State.startEngine, h.time]
  refine congrArg (State.takeSlots · e) (State.withEngine_congr ?_)
  rw [h.stopped e he]
  rfl

theorem startEngine (h : t.Applied m r runs) (he : runs e = false) :
    (t.startEngine e).Applied m r fun x => runs x || decide (x = e) := by
  have begun : SlotsTaken t (t.withEngine e (EngineState.begun (m.bankFor e).header.period)) :=
    .withEngine t (fun _ => rfl) fun _ => rfl
  have taken := begun.trans (.takeSlots (begun.nothingToGrant (h.nothingToGrant e)))
  have slots := SlotFrame.takeSlots (t.withEngine e (EngineState.begun (m.bankFor e).header.period)) e
  rw [← h.startEngine_eq he] at taken slots
  have frame := EngineFrame.startEngine t e
  have otherwise {x : Engine} (hx : x ≠ e) : (t.startEngine e).engine x = t.engine x := by
    have : x = e.other := by cases x <;> cases e <;> simp_all [Side.other]
    rw [this, slots.other, State.withEngine_engine_other _ _ (this ▸ hx)]
  refine {
    tx := taken.tx.trans h.tx
    replySlot := taken.replySlot.trans h.replySlot
    notices := taken.notices.trans h.notices
    overrun := taken.overrun.trans h.overrun
    time := frame.time.trans h.time
    stopped := fun x hx => ?_
    running := fun x hx => ?_
    demands := fun x => (taken.demands x).trans (h.demands x)
    callPending := fun x => (taken.callPending x).trans (h.callPending x)
    arrangement := frame.arrangement.trans h.arrangement
    mask := frame.mask.trans h.mask
    demandLevel := frame.demandLevel.trans h.demandLevel
    enables := frame.enables.trans h.enables
    settings := fun p => (taken.settings p).trans (h.settings p)
    config := fun i => (taken.config i).trans (h.config i)
    line := fun i => (taken.line i).trans (h.line i)
    health := fun i => (taken.health i).trans (h.health i)
    failCount := fun i => (taken.failCount i).trans (h.failCount i)
    attn := fun i => (taken.attn i).trans (h.attn i)
    descriptors := slots.descriptors.trans ((State.withEngine_descriptors ..).trans h.descriptors)
    claims := taken.claims.trans h.claims
    pairs := slots.pairs.trans ((State.withEngine_pairs ..).trans h.pairs)
    stack := frame.stack.trans h.stack
    region := frame.region.trans h.region
    imageState := frame.imageState.trans h.imageState
    startSource := frame.startSource.trans h.startSource }
  · obtain ⟨hruns, hne⟩ : runs x = false ∧ x ≠ e := by simpa using hx
    rw [otherwise hne, h.stopped x hruns]
  · by_cases hxe : x = e
    · subst hxe
      rw [slots.view, State.withEngine_engine, h.stopped x he]
    · rw [otherwise hxe, h.running x (by simpa [hxe] using hx)]

/-- An engine that the image marks for autostart is started, and one that it does not mark is left. -/
theorem startIf (h : t.Applied m r runs) (he : runs e = false) (b : Bool) :
    (if b then t.startEngine e else t).Applied m r fun x => runs x || (b && decide (x = e)) := by
  cases b with
  | true => simpa using h.startEngine he
  | false => simpa using h

/-- What stands in each engine's banks, cycle and summary, started or not. -/
theorem plan (h : t.Applied m r runs) (e : Engine) : (t.engine e).plan =
    (if runs e then (m.loaded e).begun (m.bankFor e).header.period else m.loaded e).plan := by
  cases he : runs e with
  | true => exact h.running e he
  | false => exact congrArg EngineState.plan (h.stopped e he)

theorem run (h : t.Applied m r runs) (e : Engine) : (t.engine e).run = if runs e then .running else .stopped := by
  refine (congrArg EngineState.run (h.plan e)).trans ?_
  split <;> rfl

/-- What does not depend on whether the engine was started. -/
theorem engine (h : t.Applied m r runs) (e : Engine) : (t.engine e).bankX = m.bankFor e ∧ (t.engine e).bankY = m.bankFor e ∧
    (t.engine e).active = .x ∧ (t.engine e).swapArmed = false ∧ (t.engine e).cycle = 0 ∧ (t.engine e).demands = [] ∧
    (t.engine e).callPending = false ∧ (t.engine e).summary = .absent ∧
    ((t.engine e).run = .running → (t.engine e).timer = some ⟨(m.bankFor e).header.period, 0⟩) := by
  have field {α : Type} (f : EngineState → α) (hf : ∀ en, f en.plan = f en) (begun : ∀ p en, f (EngineState.begun p en) = f en) :
      f (t.engine e) = f (m.loaded e) := by
    rw [← hf, h.plan e, hf]
    split
    · exact begun ..
    · rfl
  refine ⟨field EngineState.bankX (fun _ => rfl) fun _ _ => rfl, field EngineState.bankY (fun _ => rfl) fun _ _ => rfl,
    field EngineState.active (fun _ => rfl) fun _ _ => rfl, field EngineState.swapArmed (fun _ => rfl) fun _ _ => rfl,
    field EngineState.cycle (fun _ => rfl) fun _ _ => rfl, h.demands e, h.callPending e,
    field EngineState.summary (fun _ => rfl) fun _ _ => rfl, fun hrun => ?_⟩
  have runs_e : runs e = true := by
    rw [h.run e] at hrun
    by_contra hne
    rw [if_neg hne] at hrun
    cases hrun
  exact congrArg EngineState.timer (h.running e runs_e)

end

/-- The image is applied to the part as it is after a reset. -/
def ofReset (s : State) (m : Image) : State :=
  ({ s.resetBlocks with imageState := .valid, startSource := .image } : State).applyImage m

theorem applied_ofReset (s : State) (m : Image) : (ofReset s m).Applied m s.region fun _ => false where
  tx := rfl
  replySlot := rfl
  notices := rfl
  overrun := rfl
  time := rfl
  stopped e _ := by cases e <;> rfl
  running _ h := absurd h Bool.false_ne_true
  demands e := by cases e <;> rfl
  callPending e := by cases e <;> rfl
  arrangement := rfl
  mask := rfl
  demandLevel := rfl
  enables := rfl
  settings p := by cases p <;> rfl
  config i := congrArg Station.config (Vector.getElem_map Station.fresh i.isLt)
  line i := congrArg Station.line (Vector.getElem_map Station.fresh i.isLt)
  health i := congrArg Station.health (Vector.getElem_map Station.fresh i.isLt)
  failCount i := congrArg Station.failCount (Vector.getElem_map Station.fresh i.isLt)
  attn i := Vector.getElem_replicate i.isLt
  descriptors := rfl
  claims := rfl
  pairs := rfl
  stack := rfl
  region := rfl
  imageState := rfl
  startSource := rfl

/-- The engines an image starts are started (R170, step 1). -/
theorem autostart (s : State) (m : Image) : ((ofReset s m).autostart m).Applied m s.region m.starts := by
  have first := (applied_ofReset s m).startIf (e := .a) rfl (m.starts .a)
  have second := first.startIf (e := .b) (by simp) (m.starts .b)
  have both : m.starts = fun x => (false || (m.starts .a && decide (x = .a))) || (m.starts .b && decide (x = .b)) := by
    funext x
    cases x <;> simp
  rw [both]
  exact second

/-- STARTED finds a free transmitter and an empty queue, and begins at once. -/
theorem raise_started {m : Image} {r : Region} {runs : Engine → Bool} {t : State} (h : t.Applied m r runs)
    (cause : ResetCause) (a b : Bool) : t.raise (.started cause .image .valid t.arrangement a b) =
      { t with tx := some ⟨.notice ⟨.started cause .image .valid m.arrangement a b, 0⟩, 0⟩ } := by
  rw [State.raise_of_free _ _ rfl h.tx h.replySlot h.notices, h.time, h.arrangement]

/-- The engines an image starts, by the changes that LINE-START makes to an engine at its reset values. -/
theorem autostart_eq (s : State) (m : Image) : (ofReset s m).autostart m =
    let first := if m.starts .a then
      ((ofReset s m).withEngine .a (EngineState.begun m.headerA.period)).takeSlots .a else ofReset s m
    if m.starts .b then (first.withEngine .b (EngineState.begun m.headerB.period)).takeSlots .b else first := by
  have started := (applied_ofReset s m).startEngine_eq (e := .a) rfl
  have second := ((applied_ofReset s m).startIf (e := .a) rfl (m.starts .a)).startEngine_eq (e := .b) (by simp)
  rw [started] at second
  unfold State.autostart
  dsimp only
  rw [started, second]
  rfl

end State.Applied

/-- A reset on a region that holds a valid image: the image applied, its engines started, and STARTED begun. -/
theorem State.fullReset_of_image {s : State} {m : Image} (h : s.region.check = (.image, some m)) (cause : ResetCause) :
    s.fullReset cause = { (State.Applied.ofReset s m).autostart m with
      tx := some ⟨.notice ⟨.started cause .image .valid m.arrangement (m.starts .a) (m.starts .b), 0⟩, 0⟩ } := by
  have hregion : s.resetBlocks.region.check = (.image, some m) := h
  rw [State.fullReset, State.startUp_of_image hregion rfl]
  exact (State.Applied.autostart s m).raise_started cause _ _

/-- Settles O35: `State.fullReset_of_image` for the three causes, and `State.Applied.autostart` for what then stands. -/
theorem resetAppliesTheImage : Obligations.ResetAppliesTheImage := by
  unfold Obligations.ResetAppliesTheImage
  intro s l1 l0 m tag r us h startsB header bank applied start first running outcome
  have reset : State.Applied.ofReset { s with lr1 := l1, lr0 := l0 } m = applied := rfl
  have autostarted : (State.Applied.ofReset { s with lr1 := l1, lr0 := l0 } m).autostart m = running :=
    State.Applied.autostart_eq { s with lr1 := l1, lr0 := l0 } m
  have stands : running.Applied m s.region m.starts :=
    autostarted ▸ State.Applied.autostart { s with lr1 := l1, lr0 := l0 } m
  have outcome_of (c : Instr) (cause : ResetCause) (hc : exec c s =
      .next (({ s with lr1 := l1, lr0 := l0 } : State).fullReset cause)) : outcome c cause := by
    refine ⟨_, hc, ?_, ?_⟩
    · rw [State.fullReset_of_image (s := { s with lr1 := l1, lr0 := l0 }) h, autostarted]
      rfl
    · rw [State.fullReset_of_image (s := { s with lr1 := l1, lr0 := l0 }) h, autostarted]
      refine ⟨stands.notices, stands.replySlot, stands.overrun, stands.time, stands.run .a, stands.run .b, fun e => ?_,
        stands.arrangement, stands.mask, stands.demandLevel, stands.enables, stands.settings .a, stands.settings .b,
        fun i => ⟨stands.config i, stands.line i, stands.health i, stands.failCount i, stands.attn i⟩, stands.descriptors,
        fun d => ?_, stands.pairs, stands.stack, stands.region, stands.imageState, stands.startSource⟩
      · cases e
        · exact stands.engine .a
        · exact stands.engine .b
      · exact (congrArg (·[d]) stands.claims).trans (Vector.getElem_replicate d.isLt)
  refine ⟨outcome_of _ _ rfl, outcome_of _ _ rfl, ?_⟩
  rintro htx hp rfl rfl
  refine outcome_of _ _ ?_
  change execReplySent s = _
  rw [execReplySent, htx]
  exact congrArg Host.Outcome.next (State.replyEnds_restart hp)

end Sys2Proof.Machine
end

section
/-!
The Image Store's requests and the controller's steps (O29, O31, O32): an operation begun, the region behind an erase and a program,
and the order of the blocks and pages.
-/

namespace Sys2Proof.Machine

/-! ### STORE-SAVE and STORE-ERASE (R162, R164) -/

theorem boolOf_eq_some {b : Byte} (h : b.toNat ≤ 1) : boolOf b = some (decide (b = 1)) := by
  obtain h0 | h1 : b.toNat = 0 ∨ b.toNat = 1 := by omega
  · obtain rfl : b = 0 := BitVec.eq_of_toNat_eq h0
    rfl
  · obtain rfl : b = 1 := BitVec.eq_of_toNat_eq h1
    rfl

/-- What beginning an operation writes (R162, R164). -/
theorem State.beginStore_eq (s : State) (op : StoreOp) : s.beginStore op =
    { s with region := s.region.beginErase 0, store := .erasing op 0, imageState := .invalid } := by
  unfold State.beginStore State.beginErase
  rfl

@[simp] theorem State.beginStore_tx (s : State) (op : StoreOp) : (s.beginStore op).tx = s.tx := by
  rw [State.beginStore_eq]

/-- An operation is begun alike beside a dispatch's marks. -/
theorem State.beginStore_inDispatch (s : State) (f : Frame) (op : StoreOp) :
    (s.inDispatch f).beginStore op = { s.beginStore op with rx := .hunting, tx := (s.inDispatch f).tx } := by
  rw [State.beginStore_eq, State.beginStore_eq, State.inDispatch_region]
  generalize s.region.beginErase 0 = begun
  rfl

/-- STORE-SAVE with two flags in range meets the checks of any operation that is asked for (R162). -/
theorem State.doStoreSave_eq (s : State) {a b : Byte} (ha : a.toNat ≤ 1) (hb : b.toNat ≤ 1) : s.doStoreSave a b =
    if s.storeWp = .low then s.refuse .isProtected
    else if s.store = .idle then (s.beginStore (.save (s.snapshot (decide (a = 1)) (decide (b = 1))))).accepted []
    else s.refuse .busy := by
  rw [State.doStoreSave, boolOf_eq_some ha, boolOf_eq_some hb]

theorem State.doStoreSave_refuse (s : State) {a b : Byte} (h : 1 < a.toNat ∨ 1 < b.toNat) :
    s.doStoreSave a b = s.refuse .badValue := by
  unfold State.doStoreSave
  obtain h | h := h
  · rw [boolOf_eq_none h]
  · rw [boolOf_eq_none h]
    cases boolOf a <;> rfl

/-- A request for an operation: PROTECTED, BUSY, or the operation begun (R162, R164). -/
theorem exec_of_storeOp {i : Instr} {f : Frame} {s : State} {op : StoreOp} (hi : requestFrame i = some f)
    (hp : s.processing = none) (hl : f.payload.length ≤ 250)
    (hh : (s.inDispatch f).handle f =
      if (s.inDispatch f).storeWp = .low then (s.inDispatch f).refuse .isProtected
      else if (s.inDispatch f).store = .idle then ((s.inDispatch f).beginStore op).accepted []
      else (s.inDispatch f).refuse .busy) :
    exec i s = .next (
      if s.storeWp = .low then s.replied f ⟨.isProtected, []⟩
      else if s.store ≠ .idle then s.replied f ⟨.busy, []⟩
      else (s.beginStore op).replied f ⟨.accepted, []⟩) := by
  by_cases hwp : s.storeWp = .low
  · rw [if_pos hwp]
    exact exec_of_refused hi hp hl (hh.trans (if_pos hwp))
  rw [if_neg hwp]
  by_cases hidle : s.store = .idle
  · rw [if_neg (not_not_intro hidle), exec_of_handled hi hp hl (hh.trans ((if_neg hwp).trans (if_pos hidle)))]
    exact congrArg Host.Outcome.next (State.placeReply_of_quiet s f _ (State.beginStore · op) (s.beginStore_inDispatch f op)
      (s.beginStore_tx op))
  · rw [if_pos hidle]
    exact exec_of_refused hi hp hl (hh.trans ((if_neg hwp).trans (if_neg hidle)))

/-- Settles O29: both requests meet the same checks; a save's snapshot is the live configuration's. -/
theorem storeRequestsBeginTheErase : Obligations.StoreRequestsBeginTheErase := by
  intro s tag a b hproc fs fe bank begin
  have hbank : ∀ en : EngineState, en.activeBank = bank en := fun en => by
    obtain ⟨bankX, bankY, active⟩ := en
    cases active <;> rfl
  refine ⟨fun hbad => ?_, fun ha hb => ?_, ?_⟩
  · exact exec_of_refused (f := fs) rfl hproc (Nat.le_of_ble_eq_true rfl) (State.doStoreSave_refuse _ hbad)
  · have saved := exec_of_storeOp (i := .storeSave tag a b) (f := fs) rfl hproc (Nat.le_of_ble_eq_true rfl)
      ((s.inDispatch fs).doStoreSave_eq ha hb)
    have snapshot : (s.inDispatch fs).snapshot = s.snapshot := rfl
    rw [snapshot, State.snapshot, hbank, hbank, State.beginStore_eq] at saved
    exact saved
  · have erased := exec_of_storeOp (i := .storeErase tag) (f := fe) (op := .erase) rfl hproc (Nat.zero_le _) rfl
    rw [State.beginStore_eq] at erased
    exact erased

/-! ### The region behind an erase and a program (R160, R163) -/

/-- A byte reads as before where the page's mark, the cells and the count of the free values are as before. -/
theorem Region.read_congr {r r' : Region} {a : Nat} (htears : r'.tears = r.tears)
    (htorn : r'.isTorn (a / Memory.pageSize) = r.isTorn (a / Memory.pageSize))
    (hcells : Memory.read r'.cells a = Memory.read r.cells a) : r'.read a = r.read a := by
  rw [Region.read, Region.read, htorn, htears, hcells]

/-- A byte of a page whose content is stated is its cell's (log entry 8). -/
theorem Region.read_of_stated {r : Region} {a : Nat} (h : r.isTorn (a / 256) = false) :
    r.read a = Memory.read r.cells a := by
  rw [Region.read, show a / Memory.pageSize = a / 256 from rfl, h, if_neg Bool.false_ne_true]

theorem Region.isTorn_of_le (r : Region) {p : Nat} (h : 64 ≤ p) : r.isTorn p = false := by
  simp [Region.isTorn, Nat.not_lt.mpr h]

theorem Region.isTorn_beginErase (r : Region) (b : Fin 4) (p : Nat) :
    (r.beginErase b).isTorn p = (r.isTorn p || decide (p / 16 = b.val)) := by
  rw [Region.beginErase, Region.isTorn_mark]
  by_cases hp : p / 16 = b.val
  · rw [if_pos (by simp only [Memory.blockPages]; omega), decide_eq_true hp, Bool.or_true]
  · rw [if_neg (by simp only [Memory.blockPages]; omega), decide_eq_false hp, Bool.or_false]

theorem Region.isTorn_setErased (r : Region) (b : Fin 4) (p : Nat) :
    (r.setErased b).isTorn p = (r.isTorn p && decide (p / 16 ≠ b.val)) := by
  by_cases hp : p / 16 = b.val
  · rw [Region.setErased, Region.isTorn_mark, if_pos (by simp only [Memory.blockPages]; omega),
      decide_eq_false (not_not_intro hp), Bool.and_false]
  · rw [(Region.samePage_setErased hp).torn, decide_eq_true hp, Bool.and_true]

theorem Region.isTorn_beginProgram (r : Region) (page : Nat) {p : Nat} (h : p < 64) :
    (r.beginProgram page).isTorn p = (r.isTorn p || decide (p = page)) := by
  rw [Region.beginProgram, Region.isTorn_mark]
  split
  · rw [decide_eq_true (by omega), Bool.or_true]
  · rw [decide_eq_false (by omega), Bool.or_false]

theorem Region.isTorn_programmed_eq (r : Region) (page : Nat) (bytes : List Byte) (p : Nat) :
    (r.programmed page bytes).isTorn p = (r.isTorn p && decide (p ≠ page)) := by
  by_cases hp : p = page
  · rw [hp, Region.isTorn_programmed, decide_eq_false (not_not_intro rfl), Bool.and_false]
  · rw [(Region.samePage_programmed hp).torn, decide_eq_true hp, Bool.and_true]

/-- The bytes of an erased block read 0xFF, and the others as before (R163). -/
theorem Region.read_setErased (r : Region) (b : Fin 4) (a : Nat) : (r.setErased b).read a =
    if b.val * 4096 ≤ a ∧ a < b.val * 4096 + 4096 then 0xFF else r.read a := by
  split
  case isTrue hblock =>
    have stated : (r.setErased b).isTorn (a / Memory.pageSize) = false := by
      rw [Region.isTorn_setErased, decide_eq_false (by simp only [Memory.pageSize]; omega), Bool.and_false]
    rw [Region.read, stated]
    refine (Memory.read_lay_inside _ _ _ [] a ?_ ?_) <;> (simp only [Memory.blockPages, Memory.pageSize]; omega)
  case isFalse hblock =>
    refine Region.read_congr rfl ?_ (Memory.read_lay_outside _ _ _ _ _ ?_)
    · exact (Region.samePage_setErased (by simp only [Memory.pageSize]; omega)).torn
    · simp only [Memory.blockPages, Memory.pageSize]; omega

/-- A page that has been programmed holds its bytes, erased behind the last of them (10.1, R171). -/
theorem Region.read_programmed_inside (r : Region) (page : Nat) (bytes : List Byte) {k : Nat} (hk : k < 256) :
    (r.programmed page bytes).read (page * 256 + k) = bytes[k]?.getD 0xFF := by
  have hpage : (page * 256 + k) / Memory.pageSize = page := by simp only [Memory.pageSize]; omega
  rw [Region.read, hpage, Region.isTorn_programmed]
  refine (Memory.read_lay_inside _ _ _ bytes _ ?_ ?_).trans ?_
  · simp only [Memory.pageSize]; omega
  · simp only [Memory.pageSize]; omega
  · rw [List.getD_eq_getElem?_getD, Memory.pageSize, Nat.add_sub_cancel_left]
    rfl

theorem Region.read_programmed_outside (r : Region) {page : Nat} (bytes : List Byte) {a : Nat} (h : a / 256 ≠ page) :
    (r.programmed page bytes).read a = r.read a := by
  refine Region.read_congr rfl (Region.samePage_programmed h).torn (Memory.read_lay_outside _ _ _ _ _ ?_)
  simp only [Memory.pageSize]; omega

/-- Where a page has a stated content behind the begin of an erase, it had it before and keeps it. -/
theorem Region.read_beginErase {r : Region} {b : Fin 4} {a : Nat} (h : (r.beginErase b).isTorn (a / 256) = false) :
    (r.beginErase b).read a = r.read a := by
  obtain ⟨stated, other⟩ := Bool.or_eq_false_iff.mp (Region.isTorn_beginErase r b (a / 256) ▸ h)
  exact (Region.samePage_beginErase (of_decide_eq_false other)).read stated a rfl

theorem Region.read_beginProgram {r : Region} {page a : Nat} (h : (r.beginProgram page).isTorn (a / 256) = false) :
    (r.beginProgram page).read a = r.read a := by
  have stated : r.isTorn (a / 256) = false := by
    obtain hlt | hle := Nat.lt_or_ge (a / 256) 64
    · exact (Bool.or_eq_false_iff.mp (Region.isTorn_beginProgram r page hlt ▸ h)).1
    · exact r.isTorn_of_le hle
  rw [Region.read_of_stated h, Region.read_of_stated stated, Region.beginProgram_cells]

/-! ### The erase step (R163, R164) -/

/-- What a store operation's end makes of the state. -/
theorem State.endStore_eq (s : State) (save : Bool) (o : StoreOutcome) (im : ImageState) : s.endStore save o im =
    ({ s with store := .idle, imageState := im } : State).raise (.storeResult save o im) := by rw [State.endStore]

theorem exec_eraseTimeout_erasing {s : State} {op : StoreOp} {k : Fin 4} (h : s.store = .erasing op k) :
    exec .eraseTimeout s = .next (s.endStore op.isSave (.eraseFailed k) .invalid) := by
  change execEraseTimeout s = _
  rw [execEraseTimeout, h]

theorem exec_blockEraseComplete_erasing {s : State} {op : StoreOp} {k : Fin 4} (h : s.store = .erasing op k) (erased : Bool) :
    exec (.blockEraseComplete erased) s = .next (
      if erased then
        if k = 3 then ({ s with region := s.region.setErased k } : State).eraseDone op
        else ({ s with region := s.region.setErased k } : State).beginErase op (k + 1)
      else s.endStore op.isSave (.eraseFailed k) .invalid) := by
  change execBlockEraseComplete erased s = _
  rw [execBlockEraseComplete, h]
  dsimp only
  rw [apply_ite Host.Outcome.next, apply_ite Host.Outcome.next]

/-- Outside ERASING the erase events change nothing (log entry 3). -/
theorem exec_eraseTimeout_other {s : State} (h : ∀ op k, s.store ≠ .erasing op k) : exec .eraseTimeout s = .next s := by
  change execEraseTimeout s = _
  unfold execEraseTimeout
  split
  case h_1 op k hstore => exact absurd hstore (h op k)
  all_goals rfl

theorem exec_blockEraseComplete_other {s : State} (h : ∀ op k, s.store ≠ .erasing op k) (erased : Bool) :
    exec (.blockEraseComplete erased) s = .next s := by
  change execBlockEraseComplete erased s = _
  unfold execBlockEraseComplete
  split
  case h_1 op k hstore => exact absurd hstore (h op k)
  all_goals rfl

/-- Settles O31: the events by the block that is being erased, and the region's bytes behind each. -/
theorem eraseStepTakesTheBlocksInOrder : Obligations.EraseStepTakesTheBlocksInOrder := by
  intro s
  refine ⟨fun h => ⟨exec_eraseTimeout_other h, exec_blockEraseComplete_other h⟩, ?_⟩
  intro op k hstore cleared isSave failed
  have ended : s.endStore op.isSave (.eraseFailed k) .invalid = failed := by
    have hsave : op.isSave = isSave := by cases op <;> rfl
    rw [State.endStore_eq, hsave]
  have complete := exec_blockEraseComplete_erasing hstore
  refine ⟨ended ▸ exec_eraseTimeout_erasing hstore, ?_, fun hk => ?_, ?_, ?_, s.region.read_setErased k,
    s.region.isTorn_setErased k, fun r b => ⟨fun page _ => r.isTorn_beginErase b page, fun a h => Region.read_beginErase h⟩⟩
  · rw [complete, if_neg Bool.false_ne_true, ended]
  · rw [complete, if_pos rfl, if_neg hk, State.beginErase]
  · rintro m rfl rfl
    rw [complete, if_pos rfl, if_pos rfl, State.eraseDone, State.beginPage]
  · rintro rfl rfl
    rw [complete, if_pos rfl, if_pos rfl, State.eraseDone, State.endStore_eq]

/-! ### The program and mark steps (R163) -/

theorem exec_pageProgramComplete (s : State) (how : ProgramEnd) : exec (.pageProgramComplete how) s =
    .next (match how with
      | .verified => s.programVerifies
      | .differs => s.programFails
      | .unverified => s.programEnds) := by
  change execPageProgramComplete how s = _
  cases how <;> rfl

/-- In IDLE and ERASING the program events change nothing (log entry 3). -/
theorem exec_programEvents_other {s : State} (h : s.store = .idle ∨ ∃ op k, s.store = .erasing op k) :
    exec .programTimeout s = .next s ∧ ∀ how, exec (.pageProgramComplete how) s = .next s := by
  have stays : s.store.programComplete = false ∧ s.programFails = s ∧ s.programVerifies = s ∧ s.programEnds = s := by
    obtain h | ⟨op, k, h⟩ := h <;>
      (rw [State.programFails, State.programVerifies, State.programEnds, h]; exact ⟨rfl, rfl, rfl, rfl⟩)
  obtain ⟨hcomplete, hfails, hverifies, hends⟩ := stays
  refine ⟨?_, fun how => ?_⟩
  · change execProgramTimeout s = _
    rw [execProgramTimeout, hcomplete, if_neg Bool.false_ne_true, hfails]
  · rw [exec_pageProgramComplete]
    cases how with
    | verified => exact congrArg Host.Outcome.next hverifies
    | differs => exact congrArg Host.Outcome.next hfails
    | unverified => exact congrArg Host.Outcome.next hends

/-- The controller's step while a page is being programmed: the marker page is page 0 (R163). -/
def Store.ofPage (m : Image) (page : Nat) (again complete : Bool) : Store :=
  if page = 0 then .marking m again complete else .programming m page again complete

theorem Store.programComplete_ofPage (m : Image) (page : Nat) (again complete : Bool) :
    (Store.ofPage m page again complete).programComplete = complete := by
  unfold Store.ofPage
  split <;> rfl

section
variable {s : State} {m : Image} {page : Nat} {again complete : Bool}

theorem State.programEnds_eq (h : s.store = .ofPage m page again complete) : s.programEnds =
    { s with region := s.region.programmed page (m.pageBytes page), store := .ofPage m page again true } := by
  rw [State.programEnds, h, Store.ofPage, Store.ofPage]
  by_cases hp : page = 0
  · rw [if_pos hp, if_pos hp, hp]
  · rw [if_neg hp, if_neg hp]

/-- A page that failed is begun once more, and ends the save at the second failure (R163). -/
theorem State.programFails_eq (h : s.store = .ofPage m page again complete) : s.programFails =
    if again then ({ s with region := s.region.beginProgram page } : State).endStore true (.programFailed page) .invalid
    else { s with region := s.region.beginProgram page, store := .ofPage m page true false } := by
  rw [State.programFails, h, Store.ofPage, Store.ofPage]
  by_cases hp : page = 0
  · rw [if_pos hp, if_pos hp, hp]
    rfl
  · rw [if_neg hp, if_neg hp]
    rfl

/-- A page that verified lets the next begin: behind page 21 the marker page, which ends the save (R163). -/
theorem State.programVerifies_eq (h : s.store = .ofPage m page again complete) (hpage : page ≤ 21) : s.programVerifies =
    if page = 0 then
      ({ s with region := s.region.programmed page (m.pageBytes page) } : State).endStore true .saved .valid
    else if page = 21 then
      ({ s with region := s.region.programmed page (m.pageBytes page) } : State).beginMark m false
    else ({ s with region := s.region.programmed page (m.pageBytes page) } : State).beginPage m (page + 1) false := by
  rw [State.programVerifies, h, Store.ofPage]
  by_cases hp : page = 0
  · rw [if_pos hp, if_pos hp, hp]
  rw [if_neg hp, if_neg hp]
  dsimp only
  by_cases h21 : page = 21
  · rw [if_neg (by omega), if_pos h21]
  · rw [if_pos (by omega), if_neg h21]

/-- The time limit of a page whose program has not completed is a failure of the page (R163). -/
theorem exec_programTimeout (h : s.store = .ofPage m page again complete) : exec .programTimeout s =
    if complete then .next s else .next s.programFails := by
  change execProgramTimeout s = _
  rw [execProgramTimeout, h, Store.programComplete_ofPage]

end

/-- Settles O32: the events by the page that is being programmed, and the region's bytes behind each. -/
theorem programStepTakesThePagesInOrder : Obligations.ProgramStepTakesThePagesInOrder := by
  intro s
  refine ⟨exec_programEvents_other, ?_⟩
  intro m page again complete hstep done retry stepOf
  have hpage : page ≤ 21 := by omega
  have hstore : s.store = .ofPage m page again complete := by
    rw [Store.ofPage]
    obtain ⟨hstore, h1, -⟩ | ⟨hstore, h0⟩ := hstep
    · rw [if_neg (by omega), hstore]
    · rw [if_pos h0, hstore]
  refine ⟨?_, ?_, ?_, ?_, ?_, fun k hk => s.region.read_programmed_inside page _ hk,
    fun a ha => s.region.read_programmed_outside _ ha, s.region.isTorn_programmed_eq page _,
    fun r p => ⟨fun q hq => r.isTorn_beginProgram p hq, fun a h => Region.read_beginProgram h⟩⟩
  · rw [exec_pageProgramComplete]
    dsimp only
    rw [State.programVerifies_eq hstore hpage, State.endStore_eq, State.beginMark, State.beginPage]
  · rw [exec_pageProgramComplete]
    dsimp only
    rw [State.programFails_eq hstore, State.endStore_eq]
    rfl
  · rintro rfl
    rw [exec_programTimeout hstore, if_neg Bool.false_ne_true, exec_pageProgramComplete]
  · rintro rfl
    rw [exec_programTimeout hstore, if_pos rfl]
  · rw [exec_pageProgramComplete]
    dsimp only
    rw [State.programEnds_eq hstore]
    rfl

end Sys2Proof.Machine
end

section
/-!
The start-up check (O34): what a region reads, the range of each item of the image pages, and an address twice in one scope.
-/

namespace Sys2Proof.Machine

/-! ### What a region reads -/

theorem Memory.read_eq_find? (cells : List Host.Cell) (a : Nat) : Memory.read cells a =
    match cells.find? fun c => decide (c.1 = a) with
    | some c => c.2
    | none => 0xFF := by
  induction cells with
  | nil => rfl
  | cons c rest ih =>
    obtain ⟨x, b⟩ := c
    rw [Memory.read]
    by_cases hx : x = a
    · rw [if_pos hx, List.find?_cons_of_pos (by simpa using hx)]
    · rw [if_neg hx, List.find?_cons_of_neg (by simpa using hx), ih]

/-- The bytes of a record that lies inside the pages. -/
theorem recordAt_eq_map {b : List Byte} {base size i : Nat} (h : base + size * i + size ≤ b.length) :
    recordAt b base size i = (List.range size).map fun k => b.getD (base + size * i + k) 0 := by
  refine List.ext_getElem (by simp [recordAt]; omega) fun k h1 h2 => ?_
  have hk : k < size := by simpa using h2
  simp only [recordAt, List.getElem_take, List.getElem_drop, List.getElem_map, List.getElem_range]
  rw [List.getD_eq_getElem _ _ (by omega)]

theorem toNat_wordOf (hi lo : Byte) : (wordOf hi lo).toNat = hi.toNat * 256 + lo.toNat := by
  rw [wordOf, BitVec.toNat_append, ← Nat.shiftLeft_add_eq_or_of_lt lo.isLt, Nat.shiftLeft_eq]

/-! ### The range of each code (11.2, R171) -/

theorem finOf_eq_none_iff {n : Nat} {b : Byte} : finOf n b = none ↔ n ≤ b.toNat := by
  simp [finOf]

theorem arrangementOf_eq_none_iff {b : Byte} : arrangementOf b = none ↔ 1 < b.toNat := by
  refine ⟨fun h => ?_, arrangementOf_eq_none⟩
  unfold arrangementOf at h
  split_ifs at h with h0 h1
  bv_omega

theorem directionOf_eq_none_iff {b : Byte} : directionOf b = none ↔ 1 < b.toNat := by
  refine ⟨fun h => ?_, directionOf_eq_none⟩
  unfold directionOf at h
  split_ifs at h with h0 h1
  bv_omega

theorem boolOf_eq_none_iff {b : Byte} : boolOf b = none ↔ 1 < b.toNat := by
  refine ⟨fun h => ?_, boolOf_eq_none⟩
  unfold boolOf at h
  split_ifs at h with h0 h1
  bv_omega

theorem parityOf_eq_none_iff {b : Byte} : parityOf b = none ↔ 2 < b.toNat := by
  refine ⟨fun h => ?_, parityOf_eq_none⟩
  unfold parityOf at h
  split_ifs at h with h0 h1 h2
  bv_omega

theorem stopBitsOf_eq_none_iff {b : Byte} : stopBitsOf b = none ↔ b.toNat = 0 ∨ 2 < b.toNat := by
  refine ⟨fun h => ?_, fun h => stopBitsOf_eq_none (h.imp_left BitVec.eq_of_toNat_eq)⟩
  unfold stopBitsOf at h
  split_ifs at h with h1 h2
  bv_omega

theorem pollKindOf_eq_none_iff {b : Byte} : pollKindOf b = none ↔ b.toNat = 0 ∨ 3 < b.toNat := by
  refine ⟨fun h => ?_, fun h => pollKindOf_eq_none (h.imp_left BitVec.eq_of_toNat_eq)⟩
  unfold pollKindOf at h
  split_ifs at h with h1 h2 h3
  bv_omega

theorem xferKindOf_eq_none_iff {b : Byte} : xferKindOf b = none ↔ b.toNat = 0 ∨ 2 < b.toNat := by
  refine ⟨fun h => ?_, fun h => xferKindOf_eq_none (h.imp_left BitVec.eq_of_toNat_eq)⟩
  unfold xferKindOf at h
  split_ifs at h with h1 h2
  bv_omega

/-- The arrangement's code is 0 for INDEPENDENT alone. -/
theorem independent_iff {b : Byte} {x : Arrangement} (h : arrangementOf b = some x) : x = .independent ↔ b.toNat = 0 := by
  unfold arrangementOf at h
  split_ifs at h with h0 h1 <;> cases h
  · simp [h0]
  · simp [h1]

/-! ### The range of each record (11.3) -/

/-- A reader that answers none exactly outside a range answers inside it. -/
theorem exists_of_none_iff {α : Type} {o : Option α} {bad : Prop} (h : o = none ↔ bad) (hgood : ¬ bad) : ∃ x, o = some x :=
  Option.ne_none_iff_exists'.mp (mt h.mp hgood)

theorem not_of_none_iff {α : Type} {o : Option α} {bad : Prop} (h : o = none ↔ bad) {x : α} (hx : o = some x) : ¬ bad :=
  mt h.mpr (Option.ne_none_iff_exists'.mpr ⟨x, hx⟩)

theorem PortSettings.ofBytes_eq_none_iff {rate parity stop timeout gap : Byte} :
    PortSettings.ofBytes [rate, parity, stop, timeout, gap] = none ↔
      8 < rate.toNat ∨ 2 < parity.toNat ∨ stop.toNat = 0 ∨ 2 < stop.toNat ∨ 3 < timeout.toNat ∨ gap.toNat = 0 ∨
        16 < gap.toNat := by
  refine ⟨fun hnone => ?_, fun h => PortSettings.ofBytes_eq_none (by simpa [← BitVec.toNat_inj] using h)⟩
  by_contra hgood
  simp only [not_or] at hgood
  obtain ⟨hrate, hparity, hstop0, hstop, htimeout, hgap0, hgap⟩ := hgood
  obtain ⟨r, hr⟩ := exists_of_none_iff (finOf_eq_none_iff (n := 9)) hrate
  obtain ⟨p, hp⟩ := exists_of_none_iff parityOf_eq_none_iff hparity
  obtain ⟨sb, hsb⟩ := exists_of_none_iff stopBitsOf_eq_none_iff (not_or.mpr ⟨hstop0, hstop⟩)
  obtain ⟨t, ht⟩ := exists_of_none_iff (finOf_eq_none_iff (n := 4)) htimeout
  simp only [PortSettings.ofBytes, hr, hp, hsb, ht] at hnone
  rw [if_pos (by omega)] at hnone
  cases hnone

theorem BankHeader.ofBytes_eq_none_iff {p1 p0 n k1 k0 : Byte} : BankHeader.ofBytes [p1, p0, n, k1, k0] = none ↔
    p1.toNat * 256 + p0.toNat < 10 ∨ 128 < n.toNat := by
  rw [BankHeader.ofBytes, ← toNat_wordOf]
  by_cases hn : 128 < n.toNat
  · simp [finOf_eq_none_iff.mpr hn, hn]
  · obtain ⟨c, hc⟩ := exists_of_none_iff (finOf_eq_none_iff (n := 129)) hn
    simp [hc, hn]

theorem StationConfig.ofBytes_eq_none_iff {flags address level descriptor retries x y z : Byte} :
    StationConfig.ofBytes [flags, address, level, descriptor, retries, x, y, z] = none ↔
      address.toNat = 0 ∨ 127 < address.toNat ∨ 7 < level.toNat ∨ 31 < descriptor.toNat ∨ 3 < retries.toNat := by
  refine ⟨fun hnone => ?_, fun h => StationConfig.ofBytes_eq_none (h.imp_left BitVec.eq_of_toNat_eq)⟩
  by_contra hgood
  simp only [not_or] at hgood
  obtain ⟨haddress0, haddress, hlevel, hdescriptor, hretries⟩ := hgood
  obtain ⟨l, hl⟩ := exists_of_none_iff (finOf_eq_none_iff (n := 8)) hlevel
  obtain ⟨d, hd⟩ := exists_of_none_iff (finOf_eq_none_iff (n := 32)) hdescriptor
  obtain ⟨r, hr⟩ := exists_of_none_iff (finOf_eq_none_iff (n := 4)) hretries
  simp only [StationConfig.ofBytes, hl, hd, hr] at hnone
  rw [if_pos (by omega)] at hnone
  cases hnone

/-- What R21 compares of a station, as its record writes it (11.3). -/
theorem StationConfig.scope_of_ofBytes {flags address level descriptor retries x y z : Byte} {c : StationConfig}
    (h : StationConfig.ofBytes [flags, address, level, descriptor, retries, x, y, z] = some c) :
    c.enabled = flags.getLsbD 0 ∧ c.address = address ∧ c.home = if flags.getLsbD 1 then .b else .a := by
  unfold StationConfig.ofBytes at h
  dsimp only at h
  split at h
  · obtain ⟨-, h⟩ := Option.ite_none_right_eq_some.mp h
    cases h
    exact ⟨rfl, rfl, rfl⟩
  · cases h

theorem FixedFields.ofBytes_eq_none_iff {station request count pair wordOffset flipAfter : Byte} {point : Word} :
    FixedFields.ofBytes station request point count pair wordOffset flipAfter = none ↔
      63 < station.toNat ∨ request.toNat = 0 ∨ 3 < request.toNat ∨ count.toNat = 0 ∨ 16 < count.toNat ∨ 15 < pair.toNat ∨
        127 < wordOffset.toNat ∨ 1 < flipAfter.toNat ∨ request.toNat ≠ 3 ∧ 128 < wordOffset.toNat + count.toNat := by
  refine ⟨fun hnone => ?_, fun h => FixedFields.ofBytes_eq_none point (by simpa [← BitVec.toNat_inj] using h)⟩
  by_contra hgood
  simp only [not_or] at hgood
  obtain ⟨hstation, hrequest0, hrequest, hcount0, hcount, hpair, hoffset, hflip, hfits⟩ := hgood
  obtain ⟨st, hst⟩ := exists_of_none_iff (finOf_eq_none_iff (n := 64)) hstation
  obtain ⟨k, hk⟩ := exists_of_none_iff pollKindOf_eq_none_iff (not_or.mpr ⟨hrequest0, hrequest⟩)
  obtain ⟨p, hp⟩ := exists_of_none_iff (finOf_eq_none_iff (n := 16)) hpair
  obtain ⟨w, hw⟩ := exists_of_none_iff (finOf_eq_none_iff (n := 128)) hoffset
  obtain ⟨f, hf⟩ := exists_of_none_iff boolOf_eq_none_iff hflip
  have fits : k = .status ∨ w.val + count.toNat ≤ 128 := by
    rw [byteOf_of_finOf hw, toNat_byteOf, code_of_pollKindOf hk] at hfits
    cases k with
    | status => exact .inl rfl
    | read => exact .inr (by simp [PollKind.code] at hfits; omega)
    | write => exact .inr (by simp [PollKind.code] at hfits; omega)
  simp only [FixedFields.ofBytes, hst, hk, hp, hw, hf] at hnone
  rw [if_pos ⟨by omega, by omega, fits⟩] at hnone
  cases hnone

theorem Slot.ofBytes_eq_none_iff {kind o1 o0 divisor phase station request p1 p0 count pair wordOffset flipAfter x y z : Byte} :
    Slot.ofBytes [kind, o1, o0, divisor, phase, station, request, p1, p0, count, pair, wordOffset, flipAfter, x, y, z] = none ↔
      1 < kind.toNat ∨ divisor.toNat ∉ [1, 2, 4, 8, 16, 32, 64, 128] ∨ divisor.toNat ≤ phase.toNat ∨
        kind.toNat = 1 ∧ FixedFields.ofBytes station request (wordOf p1 p0) count pair wordOffset flipAfter = none := by
  simp only [Slot.ofBytes, divisorOk_iff]
  by_cases hcommon : divisor.toNat ∈ [1, 2, 4, 8, 16, 32, 64, 128] ∧ phase.toNat < divisor.toNat
  case neg =>
    rw [if_neg hcommon]
    refine iff_of_true rfl (.inr ?_)
    rw [← or_assoc]
    exact .inl ((not_and_or.mp hcommon).imp_right Nat.le_of_not_lt)
  rw [if_pos hcommon]
  obtain ⟨hdivisor, hphase⟩ := hcommon
  simp only [hdivisor, Nat.not_le.mpr hphase, not_true, false_or]
  obtain rfl | rfl | hkind : kind = 0 ∨ kind = 1 ∨ 1 < kind.toNat := by bv_omega
  · simp
  · cases FixedFields.ofBytes station request (wordOf p1 p0) count pair wordOffset flipAfter <;> simp
  · rw [if_neg (two_le_ne hkind).1, if_neg (two_le_ne hkind).2]
    exact iff_of_true rfl (.inl hkind)

theorem Descriptor.ofBytes_eq_none_iff {kind p1 p0 per remaining pair wordOffset flags a b c d e f g h : Byte} :
    Descriptor.ofBytes [kind, p1, p0, per, remaining, pair, wordOffset, flags, a, b, c, d, e, f, g, h] = none ↔
      kind.toNat = 0 ∨ 2 < kind.toNat ∨ per.toNat = 0 ∨ 16 < per.toNat ∨ 15 < pair.toNat ∨ 127 < wordOffset.toNat ∨
        128 < wordOffset.toNat + per.toNat := by
  constructor
  · intro hnone
    by_contra hgood
    simp only [not_or] at hgood
    obtain ⟨hkind0, hkind, hper0, hper, hpair, hoffset, hfits⟩ := hgood
    obtain ⟨k, hk⟩ := exists_of_none_iff xferKindOf_eq_none_iff (not_or.mpr ⟨hkind0, hkind⟩)
    obtain ⟨p, hp⟩ := exists_of_none_iff (finOf_eq_none_iff (n := 16)) hpair
    obtain ⟨w, hw⟩ := exists_of_none_iff (finOf_eq_none_iff (n := 128)) hoffset
    rw [byteOf_of_finOf hw, toNat_byteOf] at hfits
    simp only [Descriptor.ofBytes, hk, hp, hw] at hnone
    rw [if_pos (by omega)] at hnone
    cases hnone
  · intro hbad
    have record := Descriptor.ofBytes_record_eq_none (wordOf p1 p0) remaining flags (kind := kind) (per := per) (pair := pair)
      (wordOffset := wordOffset) (by simpa [← BitVec.toNat_inj] using hbad)
    rw [Descriptor.record, wordBytes_wordOf] at record
    exact record

/-! ### The records of the image pages (R160, R168) -/

section
variable (b : List Byte)

/-- A byte of the image pages as a number. -/
def byteAt (k : Nat) : Nat := (b.getD k 0).toNat

/-- The settings record at `k` has an item outside its range (R1). -/
def PortOutside (k : Nat) : Prop :=
  8 < byteAt b k ∨ 2 < byteAt b (k + 1) ∨ byteAt b (k + 2) = 0 ∨ 2 < byteAt b (k + 2) ∨ 3 < byteAt b (k + 3) ∨
    byteAt b (k + 4) = 0 ∨ 16 < byteAt b (k + 4)

/-- The bank header at `k` has an item outside its range (R36). -/
def HeaderOutside (k : Nat) : Prop := byteAt b k * 256 + byteAt b (k + 1) < 10 ∨ 128 < byteAt b (k + 2)

/-- The station record at `k` has an item outside its range (R19). -/
def StationOutside (k : Nat) : Prop :=
  byteAt b (k + 1) = 0 ∨ 127 < byteAt b (k + 1) ∨ 7 < byteAt b (k + 2) ∨ 31 < byteAt b (k + 3) ∨ 3 < byteAt b (k + 4)

/-- The FIXED fields of the slot record at `k` have an item outside its range (R37, R39). -/
def FixedOutside (k : Nat) : Prop :=
  63 < byteAt b (k + 5) ∨ byteAt b (k + 6) = 0 ∨ 3 < byteAt b (k + 6) ∨ byteAt b (k + 9) = 0 ∨ 16 < byteAt b (k + 9) ∨
    15 < byteAt b (k + 10) ∨ 127 < byteAt b (k + 11) ∨ 1 < byteAt b (k + 12) ∨
    byteAt b (k + 6) ≠ 3 ∧ 128 < byteAt b (k + 11) + byteAt b (k + 9)

/-- The slot record at `k` has an item outside its range (R37). -/
def SlotOutside (k : Nat) : Prop :=
  1 < byteAt b k ∨ byteAt b (k + 3) ∉ [1, 2, 4, 8, 16, 32, 64, 128] ∨ byteAt b (k + 3) ≤ byteAt b (k + 4) ∨
    byteAt b k = 1 ∧ FixedOutside b k

/-- The descriptor record at `k` has an item outside its range (R102, R104). -/
def DescriptorOutside (k : Nat) : Prop :=
  byteAt b k = 0 ∨ 2 < byteAt b k ∨ byteAt b (k + 3) = 0 ∨ 16 < byteAt b (k + 3) ∨ 15 < byteAt b (k + 5) ∨
    127 < byteAt b (k + 6) ∨ 128 < byteAt b (k + 6) + byteAt b (k + 3)

/-- Two enabled stations of the pages have one address in one scope (R21). -/
def StationsClash : Prop :=
  ∃ i j : Fin 64, i ≠ j ∧ (b.getD (256 + 8 * i.val) 0).getLsbD 0 = true ∧ (b.getD (256 + 8 * j.val) 0).getLsbD 0 = true ∧
    byteAt b (256 + 8 * i.val + 1) = byteAt b (256 + 8 * j.val + 1) ∧
    (byteAt b 0 = 0 → (b.getD (256 + 8 * i.val) 0).getLsbD 1 = (b.getD (256 + 8 * j.val) 0).getLsbD 1)

/-- The pages have an item outside its range, or stations that clash (R168, step 3). -/
def PagesOutside : Prop :=
  1 < byteAt b 0 ∨ PortOutside b 1 ∨ PortOutside b 6 ∨ 7 < byteAt b 11 ∨ 7 < byteAt b 12 ∨ 1 < byteAt b 14 ∨
    1 < byteAt b 15 ∨ HeaderOutside b 16 ∨ HeaderOutside b 21 ∨ (∃ p : Fin 16, 1 < byteAt b (26 + p.val)) ∨
    (∃ i : Fin 64, StationOutside b (256 + 8 * i.val)) ∨
    (∃ n : Fin 128, SlotOutside b (768 + 16 * n.val) ∨ SlotOutside b (2816 + 16 * n.val)) ∨
    (∃ d : Fin 32, DescriptorOutside b (4864 + 16 * d.val)) ∨ StationsClash b

end

section
variable {b : List Byte}

theorem portOutside_iff {k : Nat} (h : k + 5 ≤ b.length) :
    PortSettings.ofBytes (recordAt b k 5 0) = none ↔ PortOutside b k := by
  rw [recordAt_eq_map (by omega)]
  exact PortSettings.ofBytes_eq_none_iff

theorem headerOutside_iff {k : Nat} (h : k + 5 ≤ b.length) :
    BankHeader.ofBytes (recordAt b k 5 0) = none ↔ HeaderOutside b k := by
  rw [recordAt_eq_map (by omega)]
  exact BankHeader.ofBytes_eq_none_iff

theorem stationOutside_iff {base i : Nat} (h : base + 8 * i + 8 ≤ b.length) :
    StationConfig.ofBytes (recordAt b base 8 i) = none ↔ StationOutside b (base + 8 * i) := by
  rw [recordAt_eq_map h]
  exact StationConfig.ofBytes_eq_none_iff

theorem slotOutside_iff {base n : Nat} (h : base + 16 * n + 16 ≤ b.length) :
    Slot.ofBytes (recordAt b base 16 n) = none ↔ SlotOutside b (base + 16 * n) := by
  rw [recordAt_eq_map h]
  refine Slot.ofBytes_eq_none_iff.trans ?_
  rw [FixedFields.ofBytes_eq_none_iff]
  exact Iff.rfl

theorem descriptorOutside_iff {base d : Nat} (h : base + 16 * d + 16 ≤ b.length) :
    Descriptor.ofBytes (recordAt b base 16 d) = none ↔ DescriptorOutside b (base + 16 * d) := by
  rw [recordAt_eq_map h]
  exact Descriptor.ofBytes_eq_none_iff

theorem anyClash_iff {arr : Arrangement} {cs : Fin 64 → StationConfig} : anyClash arr cs = true ↔
    ∃ i j, i ≠ j ∧ (cs i).enabled = true ∧ (cs j).enabled = true ∧ (cs i).address = (cs j).address ∧
      (arr = .independent → (cs i).home = (cs j).home) := by
  simp [anyClash, clash_iff]

/-- Stations that are read from the pages clash exactly when their records say so. -/
theorem stationsClash_iff (hlen : b.length = 5376) {arr : Arrangement} {cs : Vector StationConfig 64}
    (harr : arrangementOf (b.getD 0 0) = some arr)
    (hcs : ∀ i : Fin 64, StationConfig.ofBytes (recordAt b 256 8 i.val) = some cs[i]) :
    anyClash arr (fun i => cs[i]) = true ↔ StationsClash b := by
  have scope : ∀ i : Fin 64, cs[i].enabled = (b.getD (256 + 8 * i.val) 0).getLsbD 0 ∧
      cs[i].address = b.getD (256 + 8 * i.val + 1) 0 ∧
      cs[i].home = if (b.getD (256 + 8 * i.val) 0).getLsbD 1 then .b else .a := fun i => by
    have read := hcs i
    rw [recordAt_eq_map (by omega)] at read
    exact StationConfig.scope_of_ofBytes read
  have home : ∀ x y : Bool, ((if x then Side.b else .a) = if y then .b else .a) ↔ x = y := by decide
  rw [anyClash_iff]
  refine exists_congr fun i => exists_congr fun j => ?_
  obtain ⟨hi, hai, hhi⟩ := scope i
  obtain ⟨hj, haj, hhj⟩ := scope j
  rw [hi, hj, hai, haj, hhi, hhj, home, independent_iff harr, byteAt, byteAt, BitVec.toNat_inj, byteAt]

end

/-- An image is what the bytes of pages 1 to 21 hold: every item is read as the image's, and no two stations clash (R160, R168). -/
structure Image.ReadFrom (b : List Byte) (m : Image) : Prop where
  arrangement : arrangementOf (b.getD 0 0) = some m.arrangement
  portA : PortSettings.ofBytes (recordAt b 1 5 0) = some m.portA
  portB : PortSettings.ofBytes (recordAt b 6 5 0) = some m.portB
  mask : finOf 8 (b.getD 11 0) = some m.mask
  demandLevel : finOf 8 (b.getD 12 0) = some m.demandLevel
  enables : Enables.ofByte (b.getD 13 0) = m.enables
  autostartA : boolOf (b.getD 14 0) = some m.autostartA
  autostartB : boolOf (b.getD 15 0) = some m.autostartB
  headerA : BankHeader.ofBytes (recordAt b 16 5 0) = some m.headerA
  headerB : BankHeader.ofBytes (recordAt b 21 5 0) = some m.headerB
  directions : ∀ i : Fin 16, directionOf (b.getD (26 + i.val) 0) = some m.directions[i]
  stations : ∀ i : Fin 64, StationConfig.ofBytes (recordAt b 256 8 i.val) = some m.stations[i]
  slotsA : ∀ i : Fin 128, Slot.ofBytes (recordAt b 768 16 i.val) = some m.slotsA[i]
  slotsB : ∀ i : Fin 128, Slot.ofBytes (recordAt b 2816 16 i.val) = some m.slotsB[i]
  descriptors : ∀ i : Fin 32, Descriptor.ofBytes (recordAt b 4864 16 i.val) = some m.descriptors[i]
  noClash : anyClash m.arrangement (fun i => m.stations[i]) = false

theorem Image.ofPages_eq_some_iff {b : List Byte} {m : Image} : Image.ofPages b = some m ↔ Image.ReadFrom b m := by
  constructor
  · intro h
    unfold Image.ofPages at h
    split at h
    · rename_i harr hpa hpb hm hd hsa hsb hha hhb hdirs
      split at h
      · rename_i hst hxa hxb hds
        split at h
        · cases h
        · rename_i hclash
          cases h
          exact ⟨harr, hpa, hpb, hm, hd, rfl, hsa, hsb, hha, hhb, readAll_some hdirs, readAll_some hst, readAll_some hxa,
            readAll_some hxb, readAll_some hds, Bool.eq_false_of_not_eq_true hclash⟩
      · cases h
    · cases h
  · intro h
    rw [Image.ofPages, h.arrangement, h.portA, h.portB, h.mask, h.demandLevel, h.enables, h.autostartA, h.autostartB, h.headerA,
      h.headerB, readAll_eq 16 _ _ h.directions, readAll_eq 64 _ _ h.stations, readAll_eq 128 _ _ h.slotsA,
      readAll_eq 128 _ _ h.slotsB, readAll_eq 32 _ _ h.descriptors]
    dsimp only
    rw [h.noClash]
    rfl

/-- Readings that each have an answer are the entries of a table. -/
theorem exists_vector {α : Type} {n : Nat} {f : Fin n → Option α} (h : ∀ i, ∃ x, f i = some x) :
    ∃ v : Vector α n, ∀ i : Fin n, f i = some v[i] := by
  choose g hg using h
  exact ⟨Vector.ofFn g, fun i => by simp [hg i]⟩

/-- Pages with an item outside its range or a clash hold no image (R168, step 3). -/
theorem Image.ofPages_of_outside {b : List Byte} (hlen : b.length = 5376) (h : PagesOutside b) : Image.ofPages b = none := by
  by_contra hread
  obtain ⟨m, hm⟩ := Option.ne_none_iff_exists'.mp hread
  have read := Image.ofPages_eq_some_iff.mp hm
  obtain h | h | h | h | h | h | h | h | h | ⟨p, h⟩ | ⟨i, h⟩ | ⟨n, h | h⟩ | ⟨d, h⟩ | h := h
  · exact not_of_none_iff arrangementOf_eq_none_iff read.arrangement h
  · exact not_of_none_iff (portOutside_iff (by omega)) read.portA h
  · exact not_of_none_iff (portOutside_iff (by omega)) read.portB h
  · exact not_of_none_iff finOf_eq_none_iff read.mask h
  · exact not_of_none_iff finOf_eq_none_iff read.demandLevel h
  · exact not_of_none_iff boolOf_eq_none_iff read.autostartA h
  · exact not_of_none_iff boolOf_eq_none_iff read.autostartB h
  · exact not_of_none_iff (headerOutside_iff (by omega)) read.headerA h
  · exact not_of_none_iff (headerOutside_iff (by omega)) read.headerB h
  · exact not_of_none_iff directionOf_eq_none_iff (read.directions p) h
  · exact not_of_none_iff (stationOutside_iff (by omega)) (read.stations i) h
  · exact not_of_none_iff (slotOutside_iff (by omega)) (read.slotsA n) h
  · exact not_of_none_iff (slotOutside_iff (by omega)) (read.slotsB n) h
  · exact not_of_none_iff (descriptorOutside_iff (by omega)) (read.descriptors d) h
  · exact Bool.false_ne_true (read.noClash.symm.trans ((stationsClash_iff hlen read.arrangement read.stations).mpr h))

/-- Any other pages hold an image: each item has a reading, and the readings do not clash. -/
theorem Image.exists_ofPages {b : List Byte} (hlen : b.length = 5376) (h : ¬ PagesOutside b) :
    ∃ m, Image.ofPages b = some m := by
  simp only [PagesOutside, not_or, not_exists] at h
  obtain ⟨harr, hpa, hpb, hm, hd, hsa, hsb, hha, hhb, hdirs, hst, hslots, hds, hclash⟩ := h
  obtain ⟨arr, harr⟩ := exists_of_none_iff arrangementOf_eq_none_iff harr
  obtain ⟨pa, hpa⟩ := exists_of_none_iff (portOutside_iff (by omega)) hpa
  obtain ⟨pb, hpb⟩ := exists_of_none_iff (portOutside_iff (by omega)) hpb
  obtain ⟨mask, hm⟩ := exists_of_none_iff (finOf_eq_none_iff (n := 8)) hm
  obtain ⟨level, hd⟩ := exists_of_none_iff (finOf_eq_none_iff (n := 8)) hd
  obtain ⟨sa, hsa⟩ := exists_of_none_iff boolOf_eq_none_iff hsa
  obtain ⟨sb, hsb⟩ := exists_of_none_iff boolOf_eq_none_iff hsb
  obtain ⟨ha, hha⟩ := exists_of_none_iff (headerOutside_iff (by omega)) hha
  obtain ⟨hb, hhb⟩ := exists_of_none_iff (headerOutside_iff (by omega)) hhb
  obtain ⟨dirs, hdirs⟩ := exists_vector fun i => exists_of_none_iff directionOf_eq_none_iff (hdirs i)
  obtain ⟨st, hst⟩ := exists_vector fun i => exists_of_none_iff (stationOutside_iff (by omega)) (hst i)
  obtain ⟨xa, hxa⟩ := exists_vector fun n => exists_of_none_iff (slotOutside_iff (by omega)) (hslots n).1
  obtain ⟨xb, hxb⟩ := exists_vector fun n => exists_of_none_iff (slotOutside_iff (by omega)) (hslots n).2
  obtain ⟨ds, hds⟩ := exists_vector fun d => exists_of_none_iff (descriptorOutside_iff (by omega)) (hds d)
  exact ⟨⟨arr, pa, pb, mask, level, Enables.ofByte (b.getD 13 0), sa, sb, ha, hb, dirs, st, xa, xb, ds⟩,
    Image.ofPages_eq_some_iff.mpr ⟨harr, hpa, hpb, hm, hd, rfl, hsa, hsb, hha, hhb, hdirs, hst, hxa, hxb, hds,
      Bool.eq_false_of_not_eq_true (mt (stationsClash_iff hlen harr hst).mp hclash)⟩⟩

/-! ### The start-up check (R168) -/

theorem Region.holdsMarker_iff (r : Region) :
    r.holdsMarker = true ↔ r.isTorn 0 = false ∧ r.bytes 0 4 = [0x5A, 0xA5, 0xC3, 0x3C] := by
  rw [Region.holdsMarker, Bool.and_eq_true, Bool.not_eq_true', decide_eq_true_iff, Region.marker]

theorem Region.checkGood_iff (r : Region) : r.checkGood = true ↔ r.bytes 4 2 = wordBytes (frameCheck r.imagePages) :=
  decide_eq_true_iff

theorem Region.length_imagePages (r : Region) : r.imagePages.length = 5376 := r.length_bytes _ _

/-- Settles O34: the marker, the check, and the pages by `Image.ofPages_of_outside` and `Image.exists_ofPages`. -/
theorem startUpChecksTheRegion : Obligations.StartUpChecksTheRegion := by
  intro r holds pages matching at_ wordAt portBad headerBad stationBad fixedBad slotBad descriptorBad flagAt clashes bad
  have hholds : r.holdsMarker = true ↔ holds := r.holdsMarker_iff
  have hmatching : r.checkGood = true ↔ matching := r.checkGood_iff
  have hlen : pages.length = 5376 := r.length_imagePages
  have hpages : r.imagePages = pages := rfl
  clear_value pages
  have houtside : PagesOutside pages ↔ bad := Iff.rfl
  refine ⟨fun _ _ => rfl, fun p => by simp [Region.isTorn], fun a stated => ?_, fun h => ?_, fun h hcheck => ?_,
    fun h hcheck hbad => ?_, fun h hcheck hgood => ?_⟩
  · exact (Region.read_of_stated stated).trans (Memory.read_eq_find? _ _)
  · exact Region.check_of_no_marker (Bool.eq_false_of_not_eq_true (mt hholds.mp h))
  · rw [Region.check, if_pos (hholds.mpr h), if_neg (mt hmatching.mp hcheck)]
  · rw [Region.check, if_pos (hholds.mpr h), if_pos (hmatching.mpr hcheck), hpages,
      Image.ofPages_of_outside hlen (houtside.mpr hbad)]
  · obtain ⟨m, hm⟩ := Image.exists_ofPages hlen (mt houtside.mp hgood)
    refine ⟨m, hm, Image.inRange_of_ofPages hm, ?_⟩
    rw [Region.check, if_pos (hholds.mpr h), if_pos (hmatching.mpr hcheck), hpages, hm]

end Sys2Proof.Machine
end

section
/-!
The image pages byte by byte, and their reading back from any region (O36).
-/

namespace Sys2Proof.Machine

/-! ### The records' bytes (11.3) -/

theorem Arrangement.code_eq (x : Arrangement) : x.code = boolByte (decide (x = .paired)) := by cases x <;> rfl

theorem Direction.code_eq (x : Direction) : x.code = boolByte (decide (x = .output)) := by cases x <;> rfl

theorem StopBits.code_eq (x : StopBits) : x.code = if x = .two then 2 else 1 := by cases x <;> rfl

theorem XferKind.code_eq (x : XferKind) : x.code = if x = .write then 2 else 1 := by cases x <;> rfl

theorem Descriptor.flags_eq (d : Descriptor) : d.flags = BitVec.ofNat 8 ((if d.advancePoint then 1 else 0) +
    (if d.advanceOffset then 2 else 0) + (if d.flipAtEnd then 4 else 0) + (if d.endAction = .acknowledge then 8 else 0)) := by
  unfold Descriptor.flags
  simp only [flag_decide]
  rfl

/-- Page 1 is the 42 bytes of settings, and 214 unused bytes 0 (11.6, R171). -/
theorem Image.pageOne_eq (m : Image) : padTo Memory.pageSize m.settingsBytes = m.settingsBytes ++ List.replicate 214 0 := by
  rw [padTo, m.length_settingsBytes, List.take_of_length_le (by rw [m.length_settingsBytes]; decide), Memory.pageSize]

/-! ### Pages programmed one after another (R163) -/

theorem Region.SamePage.trans {r r' r'' : Region} {p : Nat} (h : r.SamePage r' p) (k : r'.SamePage r'' p) :
    r.SamePage r'' p :=
  ⟨k.torn.trans h.torn, fun stated a ha => (k.read (h.torn.trans stated) a ha).trans (h.read stated a ha)⟩

/-- A region behind the programs of an image's first `n` pages, the marker page among them. -/
def Region.withPages (r : Region) (m : Image) (n : Nat) : Region :=
  (List.range n).foldl (fun u p => u.programmed p (m.pageBytes p)) r

theorem Region.withPages_succ (r : Region) (m : Image) (n : Nat) :
    r.withPages m (n + 1) = (r.withPages m n).programmed n (m.pageBytes n) := by
  rw [Region.withPages, List.range_succ, List.foldl_append]
  rfl

/-- The pages behind the marker page hold the image, and leave the marker page as it was programmed. -/
theorem Region.withPages_holds (r : Region) (m : Image) {n : Nat} (hn : n ≤ 21) :
    (r.withPages m (n + 1)).HoldsPages m n ∧ (r.programmed 0 (m.pageBytes 0)).SamePage (r.withPages m (n + 1)) 0 := by
  induction n with
  | zero => exact ⟨fun p h1 h2 => by omega, ⟨rfl, fun _ _ _ => rfl⟩⟩
  | succ n ih =>
    obtain ⟨holds, marker⟩ := ih (by omega)
    rw [Region.withPages_succ]
    exact ⟨holds.programmed (by omega) hn, marker.trans (Region.samePage_programmed (by omega))⟩

/-- Start-up finds the image in a region that holds its pages, the marker and the check (R168). -/
theorem Region.HoldsPages.check {r : Region} {m : Image} (h : r.HoldsPages m 21) (hm : m.InRange) (stated : r.isTorn 0 = false)
    (marker : r.bytes 0 4 = Region.marker) (check : r.bytes 4 2 = wordBytes (frameCheck m.pages)) :
    r.check = (.image, some m) := by
  have holds : r.holdsMarker = true := by simp [Region.holdsMarker, stated, marker]
  have good : r.checkGood = true := by simp [Region.checkGood, h.imagePages, check]
  rw [Region.check, if_pos holds, if_pos good, h.imagePages, m.ofPages_pages hm]

/-- The marker page programmed before the image's pages makes the same region of them as behind them. -/
theorem Region.check_withPages (r : Region) {m : Image} (hm : m.InRange) : (r.withPages m 22).check = (.image, some m) := by
  obtain ⟨holds, marker⟩ := r.withPages_holds m (Nat.le_refl 21)
  have stated := r.isTorn_programmed 0 (m.pageBytes 0)
  have first : ∀ k n, k + n ≤ 6 → (r.withPages m 22).bytes k n = ((m.pageBytes 0).drop k).take n := fun k n h => by
    rw [marker.bytes stated (by omega) (by simp only [Memory.pageSize]; omega)]
    simpa using Region.bytes_programmed (r := r) (p := 0) (bytes := m.pageBytes 0) h (Nat.le_of_ble_eq_true rfl)
  exact holds.check hm (marker.torn.trans stated) (first 0 4 (by decide)) (first 4 2 (by decide))

/-- No two stations clash when equal addresses of enabled stations lie in two scopes (R21). -/
theorem anyClash_eq_false_of {arr : Arrangement} {cs : Fin 64 → StationConfig}
    (h : ∀ i j, i ≠ j → (cs i).enabled = true → (cs j).enabled = true → (cs i).address = (cs j).address →
      arr = .independent ∧ (cs i).home ≠ (cs j).home) : anyClash arr cs = false := by
  refine anyClash_eq_false.mpr fun i j hij => Bool.eq_false_of_not_eq_true fun hclash => ?_
  obtain ⟨hi, hj, haddress, hhome⟩ := (clash_iff _ _ _).mp hclash
  obtain ⟨harr, hne⟩ := h i j hij hi hj haddress
  exact hne (hhome harr)

/-- Settles O36: the pages record by record, and `Region.check_withPages` for their reading back. -/
theorem savedImageComesBack : Obligations.SavedImageComesBack := by
  constructor
  · intro m bit parity port header station pollCode slot descriptor pages
    have hbit : boolByte = bit := funext boolByte_eq
    have hport : ∀ c : PortSettings, c.toBytes = port c := fun c => by
      rw [PortSettings.toBytes, StopBits.code_eq]
      obtain ⟨rate, p, stopBits, replyTimeout, gap⟩ := c
      cases p <;> rfl
    have hslot : ∀ x : Slot, x.toBytes = slot x := fun x => by
      obtain ⟨offset, divisor, phase, fixed⟩ := x
      cases fixed with
      | none => rfl
      | some f =>
        obtain ⟨st, request, point, count, pair, wordOffset, flipAfter⟩ := f
        cases request <;> cases flipAfter <;> rfl
    have hdescriptor : ∀ d : Descriptor, d.toBytes = descriptor d := fun d => by
      rw [Descriptor.toBytes, XferKind.code_eq, Descriptor.flags_eq]
      rfl
    have hpages : m.pages = pages := by
      rw [Image.pages, m.pageOne_eq, Image.settingsBytes, funext hslot, funext hdescriptor, hport, hport,
        Arrangement.code_eq, funext Direction.code_eq, hbit]
      rfl
    rw [← hpages]
    exact ⟨m.length_pages, rfl, fun p => by rw [Image.pageBytes, if_neg (Nat.succ_ne_zero p)]; rfl⟩
  · intro m r slotInRange hportA hportB hheaderA hheaderB hstations hslots hdescriptors hclash
    have hslot : ∀ x : Slot, slotInRange x → x.InRange := fun x ⟨hdivisor, hphase, hfixed⟩ =>
      ⟨(divisorOk_iff _).mpr hdivisor, hphase, hfixed⟩
    exact r.check_withPages {
      portA := hportA, portB := hportB, headerA := hheaderA, headerB := hheaderB, stations := hstations
      slotsA := fun i => hslot _ (hslots i).1, slotsB := fun i => hslot _ (hslots i).2
      descriptors := hdescriptors, noClash := anyClash_eq_false_of hclash }

end Sys2Proof.Machine
end
